-- ==== Sys2Proof/Word.lean ====
section
/-! DEFINITION. The words of the block: patterns, indices, the request word and the response word
(spec 00 R8, R11, R12; 30 R50, R55). -/

namespace Sys2Proof

/-- A 6-bit reading, one bit per sensor; bit 5 is digit 0, the highest sensor (00 R8, R11; 40 R70). -/
abbrev Pattern := BitVec 6

/-- A level index, 3 bits wide; only 0..5 name a level (10 R22). -/
abbrev LevelIndex := BitVec 3

/-- A sensor index, 3 bits wide; only 0..5 name a sensor (00 R12; 40 R77). -/
abbrev SensorIndex := BitVec 3

/-- A set of level indices: bit n stands for level index n (10 R23; 00 R9, `RISEN_MASK`). -/
abbrev LevelSet := BitVec 6

/-- The request word `Q[8:0]` (30 R50). -/
abbrev Request := BitVec 9

/-- The response word `R[31:0]` (30 R55). -/
abbrev ResponseWord := BitVec 32

end Sys2Proof
end

