-- ==== Sys2Proof/Syntax.lean ====
section
/-! DEFINITION. The commands of the block, one constructor per row of spec/opcode_table.json
(spec 30 R50, R51, R60, R61), and the lines of the host's assembly syntax (30 R63). -/

namespace Sys2Proof

/-- The commands. The 7 payload bits that RESET, STATE and the reserved code ignore (30 R54) are kept,
so that decoding drops no bit; no meaning reads them. -/
inductive Instr where
  /-- EVAL, `CMD = 00`: `FMT_OK = Q[6]` and the candidate reading `RD = Q[5:0]` (41 R100). -/
  | eval (fmtOk : Bool) (rd : Pattern)
  /-- RESET, `CMD = 01` (42 R120). -/
  | reset (payload : BitVec 7)
  /-- STATE, `CMD = 10` (42 R122). -/
  | state (payload : BitVec 7)
  /-- The reserved code, `CMD = 11` (42 R124). -/
  | reserved (payload : BitVec 7)
  deriving DecidableEq, Repr

/-- A line of the host's command stream (30 R63). -/
inductive AsmLine where
  /-- `EVAL` with the characters between its quotes, exactly as written. -/
  | eval (chars : List Char)
  | reset
  | state
  /-- A raw request word; the only spelling of the reserved code. -/
  | word (q : Request)
  deriving DecidableEq, Repr

end Sys2Proof
end

