-- ==== Sys2Proof/WellFormed.lean ====
section
/-! DEFINITION. The requests a conforming host sends: every bit the block ignores is driven to zero
(spec 30 R53, R54; 92 D5, D22). The block performs the other words too, with the same result; nothing
in the machine asks for this check. -/

namespace Sys2Proof

/-- Whether every ignored bit of a request is zero: `RD` when `FMT_OK = 0` (30 R53), `Q[6:0]` of
RESET, STATE and the reserved code (30 R54). -/
def Instr.wellFormed : Instr → Bool
  | .eval fmtOk rd => fmtOk || rd == 0#6
  | .reset payload => payload == 0#7
  | .state payload => payload == 0#7
  | .reserved payload => payload == 0#7

/-- The same request with its ignored bits driven to zero (30 R53, R54). -/
def Instr.canonical : Instr → Instr
  | .eval true rd => .eval true rd
  | .eval false _ => .eval false 0#6
  | .reset _ => .reset 0#7
  | .state _ => .state 0#7
  | .reserved _ => .reserved 0#7

end Sys2Proof
end

