-- ==== Sys2Proof/Decode.lean ====
section
/-! DEFINITION. The decoder, total over the 512 request words (spec 30 R60), the encoder from the same
table (30 R50, R51), and the host's assembler: the format check, the operand and the line syntax
(30 R52, R53, R63). -/

namespace Sys2Proof

/-! ## Request words -/

/-- The command code `CMD = Q[8:7]` (30 R50). -/
def commandField (q : Request) : BitVec 2 := q.extractLsb' 7 2

/-- The format bit `Q[6]`, read by EVAL (30 R50). -/
def formatField (q : Request) : Bool := q.getLsbD 6

/-- The candidate reading `Q[5:0]`, read by EVAL (30 R50). -/
def readingField (q : Request) : Pattern := q.extractLsb' 0 6

/-- The bits `Q[6:0]`, which RESET, STATE and the reserved code ignore (30 R54). -/
def payloadField (q : Request) : BitVec 7 := q.extractLsb' 0 7

/-- The decoder: it looks at `CMD` alone, and every word selects exactly one command (30 R51, R60). -/
def decode (q : Request) : Instr :=
  if commandField q = 0b00#2 then .eval (formatField q) (readingField q)
  else if commandField q = 0b01#2 then .reset (payloadField q)
  else if commandField q = 0b10#2 then .state (payloadField q)
  else .reserved (payloadField q)

/-- The request word of a command, `Q = (CMD << 7) | (FMT_OK << 6) | RD` (30 R50, R51). -/
def encode : Instr → Request
  | .eval fmtOk rd => 0b00#2 ++ BitVec.ofBool fmtOk ++ rd
  | .reset payload => 0b01#2 ++ payload
  | .state payload => 0b10#2 ++ payload
  | .reserved payload => 0b11#2 ++ payload

/-- A row of spec/opcode_table.json: a word belongs to it iff it agrees with `pattern` under `mask`. -/
structure OpcodeRow where
  mnemonic : String
  pattern : Request
  mask : Request
  deriving DecidableEq, Repr

/-- The opcode table (30 R60, and R61 for the reserved code). -/
def opcodeTable : List OpcodeRow :=
  [ ⟨"EVAL", 0x000#9, 0x180#9⟩, ⟨"RESET", 0x080#9, 0x180#9⟩,
    ⟨"STATE", 0x100#9, 0x180#9⟩, ⟨"RESERVED", 0x180#9, 0x180#9⟩ ]

/-- A command's mnemonic in the opcode table. -/
def Instr.mnemonic : Instr → String
  | .eval _ _ => "EVAL"
  | .reset _ => "RESET"
  | .state _ => "STATE"
  | .reserved _ => "RESERVED"

/-- Why a number is no request. -/
inductive DecodeError where
  /-- It has a 1 bit above `Q[8]`: "Every request is exactly one 9-bit word" (30 R62). -/
  | widerThanRequest (w : Nat)
  deriving DecidableEq, Repr

/-- Decoding any number: a request is exactly 9 bits (30 R62), so a wider one is rejected by name. -/
def decodeNumber (w : Nat) : Except DecodeError Instr :=
  if w < 512 then .ok (decode (BitVec.ofNat 9 w)) else .error (.widerThanRequest w)

/-- The instruction read from the low `nbits` bits of `w`, numbered as the opcode table numbers them. -/
def decodeTableWord (nbits w : Nat) : Option Instr :=
  match decodeNumber (w % 2 ^ nbits) with
  | .ok i => some i
  | .error _ => none

/-! ## The host's assembler -/

/-- A binary digit of the raw string: `0` and `1` only (30 R53). -/
def digitOfChar (c : Char) : Option Bool :=
  if c = '0' then some false else if c = '1' then some true else none

/-- Every character read as a binary digit, or nothing if one is not. -/
def digitsOfChars : List Char → Option (List Bool)
  | [] => some []
  | c :: cs =>
    match digitOfChar c, digitsOfChars cs with
    | some d, some ds => some (d :: ds)
    | _, _ => none

/-- The pattern format of 4.1: exactly 6 characters, each `0` or `1`; character i is bit `5 - i`
(30 R52, R53; 00 R11). -/
def parseReading (chars : List Char) : Option Pattern :=
  match digitsOfChars chars with
  | some [d0, d1, d2, d3, d4, d5] =>
    some (BitVec.ofBool d0 ++ BitVec.ofBool d1 ++ BitVec.ofBool d2
      ++ BitVec.ofBool d3 ++ BitVec.ofBool d4 ++ BitVec.ofBool d5)
  | _ => none

/-- The command of an assembly line: a string that fails the format check is sent with `FMT_OK = 0`
and `RD = 000000` (30 R53, R63). -/
def AsmLine.instr : AsmLine → Instr
  | .eval chars =>
    match parseReading chars with
    | some rd => .eval true rd
    | none => .eval false 0#6
  | .reset => .reset 0#7
  | .state => .state 0#7
  | .word q => decode q

/-- The request word of an assembly line (30 R63, R64: exactly one word a line). -/
def AsmLine.assemble (l : AsmLine) : Request := encode l.instr

/-- The double quote. -/
def quoteChar : Char := Char.ofNat 34

/-- A blank between the parts of a line. DESIGN CHOICE (log 8): the spec does not name the blanks. -/
def isBlank (c : Char) : Bool := c = ' ' || c = Char.ofNat 9

/-- A line without its comment, which `;` opens (30 R63). DESIGN CHOICE (log 8): a `;` between quotes
belongs to the string, since the operand is "any character string"; the flag says whether a quote is
open. -/
def stripComment : Bool → List Char → List Char
  | _, [] => []
  | quoted, c :: cs =>
    if c = quoteChar then c :: stripComment (!quoted) cs
    else if c = ';' && !quoted then []
    else c :: stripComment quoted cs

/-- A line without the blanks at its two ends (log 8). -/
def trimBlanks (cs : List Char) : List Char :=
  ((cs.dropWhile isBlank).reverse.dropWhile isBlank).reverse

/-- What follows a keyword at the start of a line. -/
def afterKeyword : List Char → List Char → Option (List Char)
  | [], cs => some cs
  | _ :: _, [] => none
  | k :: ks, c :: cs => if k = c then afterKeyword ks cs else none

/-- The characters between the first and the last quote, if the text begins and ends with one. The
string is kept exactly as written (30 R63). -/
def unquote : List Char → Option (List Char)
  | [] => none
  | c :: cs =>
    match cs.reverse with
    | [] => none
    | e :: inner => if c = quoteChar && e = quoteChar then some inner.reverse else none

/-- A hexadecimal digit's value. -/
def hexDigit (c : Char) : Option Nat :=
  let n := c.toNat
  if 48 ≤ n && n ≤ 57 then some (n - 48)
  else if 65 ≤ n && n ≤ 70 then some (n - 55)
  else if 97 ≤ n && n ≤ 102 then some (n - 87)
  else none

/-- A hexadecimal number's value, its higher digits already read. -/
def hexValue : Nat → List Char → Option Nat
  | acc, [] => some acc
  | acc, c :: cs =>
    match hexDigit c with
    | some d => hexValue (16 * acc + d) cs
    | none => none

/-- The operand of `.word`: `0x` and at least one digit, a number of at most 9 bits. -/
def parseWord : List Char → Option Request
  | '0' :: 'x' :: c :: cs =>
    match hexValue 0 (c :: cs) with
    | some w => if w < 512 then some (BitVec.ofNat 9 w) else none
    | none => none
  | _ => none

/-- A line of the command stream (30 R63): `EVAL` with a quoted string, `RESET`, `STATE`, or a raw
word. Mnemonics are upper case. Any other text is no command. -/
def parseLine (line : List Char) : Option AsmLine :=
  let text := trimBlanks (stripComment false line)
  if text = ['R', 'E', 'S', 'E', 'T'] then some .reset
  else if text = ['S', 'T', 'A', 'T', 'E'] then some .state
  else
    match afterKeyword ['E', 'V', 'A', 'L'] text with
    | some rest => (unquote (trimBlanks rest)).map .eval
    | none =>
      match afterKeyword ['.', 'w', 'o', 'r', 'd'] text with
      | some rest => (parseWord (trimBlanks rest)).map .word
      | none => none

end Sys2Proof
end

