-- ==== Sys2Proof/Config.lean ====
section
/-! DEFINITION. The block's three configuration inputs (spec 00 R9; 10 R28, R30).

They are static inputs that the host drives, so the machine's state carries the levels in force and
every statement ranges over all of them. No free value is needed: "The block has no draws, no oracle
and no nondeterminism" (70 R162). -/

namespace Sys2Proof

/-- The configuration `cfg = (DEFAULT_READING, RISEN_MASK, EQ_IS_RISE)` (00 R9; 70 R162). Every value
is legal, an invalid `DEFAULT_READING` too (10 R28; 42 R120). -/
structure Configuration where
  /-- `DEFAULT_READING`: the reading that reset loads. -/
  defaultReading : Pattern
  /-- `RISEN_MASK`: bit n is 1 iff level index n asks for an aggregate report on a rise. -/
  risenMask : LevelSet
  /-- `EQ_IS_RISE`: whether an equal candidate counts as a rise too (90 C4). -/
  eqIsRise : Bool
  deriving DecidableEq, Repr

/-- The configuration of `State.reset`. DESIGN CHOICE (log 3, unsafe where leaned on): the spec gives
`DEFAULT_READING` and `RISEN_MASK` no default, and these are the values of its own vectors
(95, the opening note); `EQ_IS_RISE = 0` is the spec's default (00 R9). -/
def Configuration.initial : Configuration :=
  { defaultReading := 0b111111#6, risenMask := 0b100100#6, eqIsRise := false }

end Sys2Proof
end

