-- ==== Sys2Proof/Machine/Flags.lean ====
section
/-! DEFINITION. The level-seen flags `TF`, the block's only flag state, and the three decisions an
accepted EVAL takes from them (spec 10 R23, R26; 41 R104, R105). -/

namespace Sys2Proof.Machine

/-- Whether a level index is in a set of level indices: bit n of the mask (10 R23). -/
def inSet (m : LevelSet) (n : LevelIndex) : Bool := m.getLsbD n.toNat

/-- The flags after the rise decision, `tf1`: cleared on a rise, else kept (41 R104). -/
def clearOnRise (isRise : Bool) (tf : LevelSet) : LevelSet := if isRise then 0b000000#6 else tf

/-- `TF <- tf1 | (1 << nl)` (41 R105). -/
def markSeen (tf1 : LevelSet) (n : LevelIndex) : LevelSet := tf1 ||| (1#6 <<< n.toNat)

/-- `NOTIFY`: the level is not among the flags `tf1` (41 R105). -/
def needsNotify (tf1 : LevelSet) (n : LevelIndex) : Bool := !inSet tf1 n

/-- `AGG`: a rise into a level of `RISEN_MASK` (41 R104). -/
def needsAggregate (isRise : Bool) (risenMask : LevelSet) (n : LevelIndex) : Bool :=
  isRise && inSet risenMask n

end Sys2Proof.Machine
end

