-- ==== Sys2Proof/Machine/Response.lean ====
section
/-! DEFINITION. The response word (spec 30 R55 to R59): the KIND codes, the reply of a command, the word
built from a reply and the state after the command, the word's fields, and the outcome a host reads
from it (30 R57). -/

namespace Sys2Proof.Machine

/-- The outcome codes the block produces (30 R56). `111` is none of them. -/
inductive Kind where
  | accepted | sensorFault | rejMsj | rejFmt | resetDone | snapshot | illegal
  deriving DecidableEq, Repr

/-- The code of an outcome (30 R56). -/
def Kind.code : Kind → BitVec 3
  | .accepted => 0b000#3
  | .sensorFault => 0b001#3
  | .rejMsj => 0b010#3
  | .rejFmt => 0b011#3
  | .resetDone => 0b100#3
  | .snapshot => 0b101#3
  | .illegal => 0b110#3

/-- What a command answers: the fields `respond` names. A field it does not name is zero (00 R13;
30 R58). -/
structure Reply where
  kind : Kind
  idx : BitVec 3 := 0#3
  notify : Bool := false
  agg : Bool := false
  clr : Bool := false
  raw : Pattern := 0#6
  deriving DecidableEq, Repr

/-- The response word of a reply, with `AR`, `AL` and `TF` as they stand after the command
(30 R55, R59). -/
def responseWord (r : Reply) (ar : Pattern) (al : LevelIndex) (tf : LevelSet) : ResponseWord :=
  0b00#2 ++ tf ++ al ++ ar ++ r.raw ++ BitVec.ofBool r.clr ++ BitVec.ofBool r.agg
    ++ BitVec.ofBool r.notify ++ r.idx ++ r.kind.code

/-! ## The fields of a response word (30 R55) -/

/-- `KIND = R[2:0]`. -/
def kindField (w : ResponseWord) : BitVec 3 := w.extractLsb' 0 3
/-- `IDX = R[5:3]`. -/
def idxField (w : ResponseWord) : BitVec 3 := w.extractLsb' 3 3
/-- `NOTIFY = R[6]`. -/
def notifyField (w : ResponseWord) : Bool := w.getLsbD 6
/-- `AGG = R[7]`. -/
def aggField (w : ResponseWord) : Bool := w.getLsbD 7
/-- `CLR = R[8]`. -/
def clrField (w : ResponseWord) : Bool := w.getLsbD 8
/-- `RAW = R[14:9]`. -/
def rawField (w : ResponseWord) : Pattern := w.extractLsb' 9 6
/-- `S_READING = R[20:15]`. -/
def sReadingField (w : ResponseWord) : Pattern := w.extractLsb' 15 6
/-- `S_LEVEL = R[23:21]`. -/
def sLevelField (w : ResponseWord) : LevelIndex := w.extractLsb' 21 3
/-- `S_FLAGS = R[29:24]`. -/
def sFlagsField (w : ResponseWord) : LevelSet := w.extractLsb' 24 6
/-- `R[31:30]`, always 0. -/
def reservedField (w : ResponseWord) : BitVec 2 := w.extractLsb' 30 2

/-- The source's `Decision` and the returns of its two other operations, as the host reads them from
a response word (30 R56, R57; 60 R130). -/
inductive Decision where
  /-- `Accepted`: the new level, `notify`, `aggregate_report`, and the separate "flags cleared". -/
  | accepted (newLevel : LevelIndex) (notify aggregateReport cleared : Bool)
  /-- `SensorFault`: the sensor and the raw reading. -/
  | sensorFault (sensor : SensorIndex) (raw : Pattern)
  /-- `Rejected` with `MultiStepJump`. -/
  | multiStepJump (raw : Pattern)
  /-- `Rejected` with `FormatOrUnresolvable`. -/
  | formatOrUnresolvable
  /-- The return of `reset()`. -/
  | resetDone
  /-- The return of `current_state()`: reading, level and flags (42 R123). -/
  | currentState (reading : Pattern) (level : LevelIndex) (flags : LevelSet)
  /-- The answer to the reserved code (42 R124). -/
  | illegal
  deriving DecidableEq, Repr

/-- What the host reads from a response word (30 R57); `KIND = 111` carries nothing (30 R56). -/
def readDecision (w : ResponseWord) : Option Decision :=
  let k := kindField w
  if k = Kind.accepted.code then
    some (.accepted (idxField w) (notifyField w) (aggField w) (clrField w))
  else if k = Kind.sensorFault.code then some (.sensorFault (idxField w) (rawField w))
  else if k = Kind.rejMsj.code then some (.multiStepJump (rawField w))
  else if k = Kind.rejFmt.code then some .formatOrUnresolvable
  else if k = Kind.resetDone.code then some .resetDone
  else if k = Kind.snapshot.code then
    some (.currentState (sReadingField w) (sLevelField w) (sFlagsField w))
  else if k = Kind.illegal.code then some .illegal
  else none

end Sys2Proof.Machine
end

