-- ==== Sys2Proof/Machine/Operands.lean ====
section
/-! DEFINITION. The combinational functions of a 6-bit pattern (spec file 40): the digits, the
run-length decoder and the level table, the validator, the fault locator, the Hamming distance, the
transition policy and the rise comparator. They read and write no state. -/

namespace Sys2Proof.Machine

/-- Digit i of a pattern, `digit(p, i) = p[5 - i]`: digit 0 is the highest sensor (00 R11). -/
def digit (p : Pattern) (i : Fin 6) : Bool := p.getLsbD (5 - i.val)

/-- The digits of a pattern, digit 0 (the most significant) first (00 R11). -/
def digits (p : Pattern) : List Bool :=
  [digit p 0, digit p 1, digit p 2, digit p 3, digit p 4, digit p 5]

/-- `run(p)`: the number of consecutive 1 bits from bit 0 upward, 0..6; the loop of 40 R71 unrolled. -/
def run (p : Pattern) : Fin 7 :=
  if !p.getLsbD 0 then 0
  else if !p.getLsbD 1 then 1
  else if !p.getLsbD 2 then 2
  else if !p.getLsbD 3 then 3
  else if !p.getLsbD 4 then 4
  else if !p.getLsbD 5 then 5
  else 6

/-- The level table, its seventh entry included (40 R72; 90 C3; 92 D6). -/
def levelTable : Vector LevelIndex 7 := #v[5#3, 4#3, 3#3, 2#3, 1#3, 0#3, 5#3]

/-- `LVL(r)`: the level index of a run (40 R72). -/
def lvl (r : Fin 7) : LevelIndex := levelTable[r]

/-- `resolve(p) = LVL(run(p))`, defined for every pattern (40 R73). -/
def resolve (p : Pattern) : LevelIndex := lvl (run p)

/-- The scan of 40 R74 over the digits still to come; the flag is `seen_one`. -/
def validFrom : Bool → List Bool → Bool
  | _, [] => true
  | _, true :: ds => validFrom true ds
  | seenOne, false :: ds => if seenOne then false else validFrom seenOne ds

/-- `valid(p)`: no 0 digit after the first 1, read from digit 0 (40 R74; 90 C1). -/
def valid (p : Pattern) : Bool := validFrom false (digits p)

/-- The first of the listed digits that is 0, or 0 where none is (40 R77, the loop from digit 5 down). -/
def firstZeroDigit (p : Pattern) : List (Fin 6) → SensorIndex
  | [] => 0#3
  | i :: is => if digit p i then firstZeroDigit p is else BitVec.ofNat 3 i.val

/-- What the fault locator answers (40 R77). -/
structure Location where
  found : Bool
  sensor : SensorIndex
  deriving DecidableEq, Repr

/-- `loc(p)`: no fault on a valid pattern, else the rightmost 0 digit (40 R77; 90 C2; 92 D23). -/
def loc (p : Pattern) : Location :=
  if valid p then { found := false, sensor := 0#3 }
  else { found := true, sensor := firstZeroDigit p [5, 4, 3, 2, 1, 0] }

/-- `popcount(v)`: the number of 1 bits (00 R12). -/
def popcount (v : Pattern) : Nat := (digits v).count true

/-- `hd(a, b)`: the Hamming distance, 0..6 (40 R80). -/
def hd (a b : Pattern) : Nat := popcount (a ^^^ b)

/-- `may_transition(a, b)`: the candidate is valid and at distance at most 1 (40 R81). -/
def mayTransition (a b : Pattern) : Bool := valid b && decide (hd a b ≤ 1)

/-- `rise(a, b)`: the candidate is numerically larger, or equal where `EQ_IS_RISE` says so
(40 R83, R84; 90 C4). -/
def rise (eqIsRise : Bool) (a b : Pattern) : Bool :=
  decide (b.toNat > a.toNat) || (eqIsRise && b == a)

end Sys2Proof.Machine
end

