-- ==== Sys2Proof/Machine/State.lean ====
section
/-! DEFINITION. The state of the block (spec file 10), the sample of its input ports at one clock edge
(70 R154), the reasons a step can stop, and the state after reset (10 R31; 70 R150). -/

namespace Sys2Proof.Machine

/-- The input ports at one rising edge of `clk` (70 R154). The edge itself is the step. -/
structure PortSample where
  /-- `rst`: synchronous reset, active high. -/
  rst : Bool
  /-- `req_valid`: `req` holds a command to perform at this edge. -/
  reqValid : Bool
  /-- `req`: the request word. -/
  req : Request
  /-- `cfg_default`, `cfg_risen` and `cfg_eqrise`. -/
  cfg : Configuration
  deriving DecidableEq, Repr

/-- The state of the block. `ar`, `al` and `tf` are its `EngineState` (10 R20), `resp` and `respValid`
its interface state (10 R27), `cfg` the configuration inputs in force (10 R28, R30). The last two
fields are the model's own: whether a reset has happened since power-up (log 4), and what the host
drives at the coming edges (log 1). The block has no memory and no program counter (20 R40; 10 R25). -/
structure State where
  /-- `AR`, the active reading. -/
  ar : Pattern
  /-- `AL`, the active level index. -/
  al : LevelIndex
  /-- `TF`, the level-seen flags. -/
  tf : LevelSet
  /-- `RESP`, the response word of the last command performed. -/
  resp : ResponseWord
  /-- `RESP_VALID`: a command was performed at the last edge. -/
  respValid : Bool
  /-- The configuration in force. -/
  cfg : Configuration
  /-- An edge with `rst = 1` has happened since power-up (10 R32; 70 R152; 93 I1). DESIGN CHOICE
  (log 4, safe); that only such an edge counts, and no RESET command: DESIGN CHOICE (log 14, safe). -/
  wasReset : Bool
  /-- The port samples of the coming edges, the next one first. DESIGN CHOICE (log 1, safe). -/
  edges : List PortSample
  deriving DecidableEq, Repr

/-- The block has no fault: "No outcome is a trap, and the block has no exception mechanism"
(60 R131; log 9). -/
inductive Fault where
  deriving DecidableEq, Repr

/-- Why a step has no meaning. -/
inductive Refusal where
  /-- Raised by an arm of `exec` whose instruction has no meaning yet; no arm is such now. Safe. -/
  | notModelled (mnemonic : String)
  /-- Raised by a clock edge with `rst = 0` and `req_valid = 1` before the first reset: "a command
  performed before it has no meaning and must be refused" (10 R32; 93 I1). RESET is no exception:
  DESIGN CHOICE (log 14). Safe. -/
  | commandBeforeReset
  /-- Raised by a clock edge with `rst = 0` at which the configuration inputs differ from the ones in
  force: "The behaviour of a block whose configuration changes while `rst` is deasserted is not
  specified" (10 R30; 93 I5, treatment `refuse`). Safe. -/
  | configurationChanged
  deriving DecidableEq, Repr

/-- The state after an edge with `rst = 1` under a configuration (10 R31; 70 R150). -/
def State.resetWith (c : Configuration) : State :=
  { ar := c.defaultReading
    al := lvl (run c.defaultReading)
    tf := 0b000000#6
    resp := 0#32
    respValid := false
    cfg := c
    wasReset := true
    edges := [] }

/-- The machine right after reset (10 R31), under the configuration that log 3 names (DESIGN CHOICE,
unsafe where leaned on) and with nothing driven yet (log 7). -/
def State.reset : State := State.resetWith Configuration.initial

end Sys2Proof.Machine
end

