-- ==== Sys2Proof/Machine/Ops.lean ====
section
/-! DEFINITION. The named operations over the state: the register writes of the commands, the response,
the accept path of EVAL, and the two edges that perform no command. The block has no exception entry
and no return from one (spec 60 R131, R134, R135). -/

namespace Sys2Proof.Machine

/-- Writing the three registers of the `EngineState` together (10 R22; 20 R43). -/
def State.writeEngine (s : State) (ar : Pattern) (al : LevelIndex) (tf : LevelSet) : State :=
  { s with ar := ar, al := al, tf := tf }

/-- `RESP <- w` and `RESP_VALID <- 1` (70 R155). -/
def State.putResponse (s : State) (w : ResponseWord) : State :=
  { s with resp := w, respValid := true }

/-- `RESP <- 0` and `RESP_VALID <- 0` (70 R150). -/
def State.clearResponse (s : State) : State := { s with resp := 0#32, respValid := false }

/-- `RESP_VALID <- 0`; `RESP` is kept (70 R156). -/
def State.dropValid (s : State) : State := { s with respValid := false }

/-- Taking the configuration inputs as sampled (10 R30). -/
def State.takeConfig (s : State) (c : Configuration) : State := { s with cfg := c }

/-- Noting that a reset has happened (log 4). -/
def State.markReset (s : State) : State := { s with wasReset := true }

/-- Moving on to the host's later port samples (log 1). -/
def State.withEdges (s : State) (ps : List PortSample) : State := { s with edges := ps }

/-- `AR`, `AL` and `TF` as reset leaves them, for the RESET command and for `rst` alike
(42 R120; 70 R150, R151). An invalid default is loaded as it is. -/
def State.loadDefault (s : State) : State :=
  s.writeEngine s.cfg.defaultReading (lvl (run s.cfg.defaultReading)) 0b000000#6

/-- `respond(...)`: the command ends with its response word, whose `S_*` fields carry the registers
after the command's writes (00 R13; 30 R59; 70 R155). -/
def respond (r : Reply) (s : State) : Host.Outcome State Fault Refusal :=
  .next (s.putResponse (responseWord r s.ar s.al s.tf))

/-- The reply of an accepted reading, computed from the state before the command (41 R100, R104 to
R106). -/
def acceptReply (rd : Pattern) (s : State) : Reply :=
  let nl := lvl (run rd)
  let r := rise s.cfg.eqIsRise s.ar rd
  { kind := .accepted
    idx := nl
    notify := needsNotify (clearOnRise r s.tf) nl
    agg := needsAggregate r s.cfg.risenMask nl
    clr := r
    raw := rd }

/-- The flags after an accepted reading, from the state before the command (41 R104, R105). -/
def acceptFlags (rd : Pattern) (s : State) : LevelSet :=
  markSeen (clearOnRise (rise s.cfg.eqIsRise s.ar rd) s.tf) (lvl (run rd))

/-- The accept path of EVAL: the new reading, level and flags, and the ACCEPTED response
(41 R104 to R106). -/
def acceptReading (rd : Pattern) (s : State) : Host.Outcome State Fault Refusal :=
  respond (acceptReply rd s) (s.writeEngine rd (lvl (run rd)) (acceptFlags rd s))

/-- An edge with `rst = 1`, under the configuration sampled at it (70 R150). `req_valid` and `req` are
ignored. -/
def resetEdge (c : Configuration) (s : State) : State :=
  (s.takeConfig c).loadDefault.clearResponse.markReset

/-- An edge with `rst = 0` and `req_valid = 0` (70 R156). -/
def idleEdge (s : State) : State := s.dropValid

end Sys2Proof.Machine
end

