-- ==== Sys2Proof/Machine/Control.lean ====
section
/-! DEFINITION. RESET, STATE and the reserved command (spec file 42). They ignore their payload bits
(30 R54). -/

namespace Sys2Proof.Machine

/-- RESET (42 R120, R121). -/
def execReset (_payload : BitVec 7) (s : State) : Host.Outcome State Fault Refusal :=
  respond { kind := .resetDone } s.loadDefault

/-- STATE (42 R122, R123): the snapshot is in the `S_*` fields of the response. -/
def execState (_payload : BitVec 7) (s : State) : Host.Outcome State Fault Refusal :=
  respond { kind := .snapshot } s

/-- The reserved command (42 R124; 30 R61): no state is written, the response is ILLEGAL. -/
def execReserved (_payload : BitVec 7) (s : State) : Host.Outcome State Fault Refusal :=
  respond { kind := .illegal } s

end Sys2Proof.Machine
end

