-- ==== Sys2Proof/Machine/Eval.lean ====
section
/-! DEFINITION. EVAL, the notification debounce state machine (spec 41 R100 to R111). -/

namespace Sys2Proof.Machine

/-- EVAL (41 R100): the first of the conditions of 60 R132 that holds decides the outcome. Only the
accept path writes the `EngineState` (41 R108). -/
def execEval (fmtOk : Bool) (rd : Pattern) (s : State) : Host.Outcome State Fault Refusal :=
  if fmtOk = false then respond { kind := .rejFmt } s
  else if valid rd = false then
    respond { kind := .sensorFault, idx := (loc rd).sensor, raw := rd } s
  else if hd s.ar rd > 1 then respond { kind := .rejMsj, raw := rd } s
  else acceptReading rd s

end Sys2Proof.Machine
end

