-- ==== Sys2Proof/Machine/Dispatch.lean ====
section
/-! DEFINITION. The dispatch from a command to its meaning (spec 30 R51), one arm per constructor. -/

namespace Sys2Proof.Machine

def exec (i : Instr) (s : State) : Host.Outcome State Fault Refusal :=
  match i with
  | .eval fmtOk rd => Sys2Proof.Machine.execEval fmtOk rd s
  | .reset payload => Sys2Proof.Machine.execReset payload s
  | .state payload => Sys2Proof.Machine.execState payload s
  | .reserved payload => Sys2Proof.Machine.execReserved payload s

end Sys2Proof.Machine
end

