-- ==== Sys2Proof/Machine/Clock.lean ====
section
/-! DEFINITION. One rising edge of `clk` (spec 70 R150, R155, R156), and the port samples a host drives:
a reset edge, an idle edge, a request. -/

namespace Sys2Proof.Machine

/-- An edge with `rst = 0` after the first reset. The configuration must be the one in force (10 R30;
93 I5); with `req_valid = 1` the command that `req` encodes is performed (70 R155), else the edge is
idle (70 R156). -/
def runningEdge (p : PortSample) (s : State) : Host.Outcome State Fault Refusal :=
  if p.cfg ≠ s.cfg then .refused .configurationChanged
  else if p.reqValid then exec (decode p.req) s
  else .next (idleEdge s)

/-- An edge with `rst = 0` before the first reset: a command is refused (10 R32; 93 I1), and an idle
edge takes the configuration as driven so far (70 R153 items 1 and 2; DEDUCED, log 6, safe).
DESIGN CHOICE (log 14, safe): a RESET command is refused here like every other; the spec calls it a reset
path (10 R31; 70 R151) and its programs begin with it (95 section 4), but 70 R152 asks for an edge with
`rst = 1`. DESIGN CHOICE (log 15, unsafe where leaned on): the idle edge clears `RESP_VALID` and keeps the
other registers (70 R156), though 10 R32 calls them unspecified until the first reset. -/
def unresetEdge (p : PortSample) (s : State) : Host.Outcome State Fault Refusal :=
  if p.reqValid then .refused .commandBeforeReset
  else .next (idleEdge (s.takeConfig p.cfg))

/-- One rising edge with the input ports as sampled. `rst = 1` wins over everything else (70 R150). -/
def clockEdge (p : PortSample) (s : State) : Host.Outcome State Fault Refusal :=
  if p.rst then .next (resetEdge p.cfg s)
  else if s.wasReset then runningEdge p s
  else unresetEdge p s

/-- The next rising edge: the first of the host's port samples. Where the host drives nothing more, the
block "waits for more commands, holding its state" (70 R161), an idle edge (DEDUCED, log 2, safe); before
the first reset too, where clearing `RESP_VALID` and keeping the rest is a DESIGN CHOICE (log 15, unsafe
where leaned on). -/
def nextEdge (s : State) : Host.Outcome State Fault Refusal :=
  match s.edges with
  | [] => .next (idleEdge s)
  | p :: ps => clockEdge p (s.withEdges ps)

/-- The ports at an edge that presents a request, under a configuration held constant (70 R155). -/
def requestSample (c : Configuration) (q : Request) : PortSample :=
  { rst := false, reqValid := true, req := q, cfg := c }

/-- The host presents a request at the next edge; all that this takes is a block that has been reset
(70 R152) and a configuration held at its level (10 R30). -/
def State.present (s : State) (q : Request) : State :=
  s.markReset.withEdges (requestSample s.cfg q :: s.edges)

end Sys2Proof.Machine
end

