-- ==== Sys2Proof/Machine/Step.lean ====
section
/-! DEFINITION. The step of the machine, one rising edge of `clk`, and the placing of a request where the
next step takes it. -/

namespace Sys2Proof.Machine

/-- One step is one rising edge (spec 70 R150, R155, R156; log 1). -/
def step (s : State) : Host.Outcome State Fault Refusal := nextEdge s

/-- The state in which the host presents the word `w` at the next edge (log 7). A request is 9 bits
(30 R62), numbered as the opcode table numbers them. -/
def State.withFetchWord (s : State) (nbits w : Nat) : State :=
  s.present (BitVec.ofNat 9 (w % 2 ^ nbits))

end Sys2Proof.Machine
end

