-- ==== Sys2Proof/Safety.lean ====
section
/-! DEFINITION. The terms claims are stated in: the invariants of spec 10 R33, a host that keeps its
duties (70 R159), the transaction step of 70 R162 written from the spec's derived identities, and the
observation of a run (70 R161). The machine uses none of them. -/

namespace Sys2Proof.Machine

/-! ## Edges -/

/-- The block has been reset and the host presents `q` at the next edge, the configuration unchanged. -/
def State.presents (s : State) (q : Request) (later : List PortSample) : Prop :=
  s.wasReset = true ∧ s.edges = requestSample s.cfg q :: later

/-- Whether the next edge presents a request without `rst` (70 R155). -/
def State.requestNext (s : State) : Bool :=
  match s.edges with
  | [] => false
  | p :: _ => !p.rst && p.reqValid

/-- Whether the next edge is a reset edge (70 R150). -/
def State.resetNext (s : State) : Bool :=
  match s.edges with
  | [] => false
  | p :: _ => p.rst

/-- The command that the next edge performs, if it presents one without `rst` (70 R155). -/
def State.commandNext (s : State) : Option Instr :=
  match s.edges with
  | [] => none
  | p :: _ => if !p.rst && p.reqValid then some (decode p.req) else none

/-- A host that keeps items 1 and 2 of 70 R159 over the samples it drives: no request before the first
reset, and no change of the configuration without `rst` after it. Where the two duties begin is the
model's choice (log 4, 5, 6, 14). -/
def hostConforms : Bool → Configuration → List PortSample → Bool
  | _, _, [] => true
  | wasReset, c, p :: ps =>
    if p.rst then hostConforms true p.cfg ps
    else if wasReset then decide (p.cfg = c) && hostConforms true c ps
    else !p.reqValid && hostConforms false p.cfg ps

/-- The host keeps its duties over everything it still drives. -/
def State.conforms (s : State) : Bool := hostConforms s.wasReset s.cfg s.edges

/-! ## What a response says -/

/-- The state holds a fresh response with these fields; its `S_*` fields echo the registers and its
reserved bits are 0 (30 R55, R58, R59). -/
def State.Answers (t : State) (kind idx : BitVec 3) (notify agg clr : Bool) (raw : Pattern) : Prop :=
  t.respValid = true ∧ kindField t.resp = kind ∧ idxField t.resp = idx ∧
  notifyField t.resp = notify ∧ aggField t.resp = agg ∧ clrField t.resp = clr ∧
  rawField t.resp = raw ∧ sReadingField t.resp = t.ar ∧ sLevelField t.resp = t.al ∧
  sFlagsField t.resp = t.tf ∧ reservedField t.resp = 0b00#2

/-- Nothing but `RESP` and `RESP_VALID` differs from `s` to `t`. -/
def State.OnlyResponseWritten (s t : State) : Prop :=
  t = { s with resp := t.resp, respValid := t.respValid }

/-! ## Invariants (10 R33) -/

/-- Items 1 and 2 of 10 R33, and items 3 and 4 as one disjunction: after the first reset the level is
the reading's, and either a reading has been accepted (so it is valid and its flag is set) or the
registers stand as reset left them. -/
def State.EngineInv (s : State) : Prop :=
  s.wasReset = true →
    s.al = lvl (run s.ar) ∧ s.al.toNat ≤ 5 ∧
    ((valid s.ar = true ∧ inSet s.tf s.al = true) ∨
      (s.ar = s.cfg.defaultReading ∧ s.tf = 0b000000#6))

/-- Whether an EVAL has been accepted since the last reset, carried along one step from `s` to `t`:
`rst` and RESET forget it, an ACCEPTED response of an EVAL notes it (10 R33 items 3 and 4). -/
def acceptedSinceReset (before : Bool) (s t : State) : Bool :=
  if s.resetNext then false
  else
    match s.commandNext with
    | some (.reset _) => false
    | some (.eval _ _) => before || decide (kindField t.resp = Kind.accepted.code)
    | _ => before

/-- Items 3 and 4 of 10 R33, with the history they speak of. -/
def State.HistoryInv (accepted : Bool) (s : State) : Prop :=
  s.wasReset = true →
    (accepted = true → valid s.ar = true ∧ inSet s.tf s.al = true) ∧
    (accepted = false → s.ar = s.cfg.defaultReading ∧ s.tf = 0b000000#6)

/-- What the outputs say while `RESP_VALID = 1`: the response echoes the registers (30 R59), its
reserved bits are 0 (30 R58) and its KIND is not 111 (30 R61). -/
def State.EchoInv (s : State) : Prop :=
  s.wasReset = true → s.respValid = true →
    sReadingField s.resp = s.ar ∧ sLevelField s.resp = s.al ∧ sFlagsField s.resp = s.tf ∧
    reservedField s.resp = 0b00#2 ∧ kindField s.resp ≠ 0b111#3

/-! ## The transaction step (70 R162), from the derived identities of file 40 -/

/-- The `EngineState` (10 R20). -/
structure EngineState where
  ar : Pattern
  al : LevelIndex
  tf : LevelSet
  deriving DecidableEq, Repr

/-- The `EngineState` of a state. -/
def State.engine (s : State) : EngineState := { ar := s.ar, al := s.al, tf := s.tf }

/-- The one-hot vector of the lowest 0 bit, `f = (~p) & ((p + 1) mod 64)` (40 R78). -/
def lowestZero (p : Pattern) : Pattern := ~~~p &&& (p + 1#6)

/-- Validity as `(p & (p + 1)) mod 64 = 0` (40 R75). -/
def isThermometer (p : Pattern) : Bool := p &&& (p + 1#6) == 0#6

/-- `hd <= 1` as `(x & (x - 1)) == 0` with `x = a ^ b` (40 R80). -/
def withinOneStep (a b : Pattern) : Bool := (a ^^^ b) &&& ((a ^^^ b) - 1#6) == 0#6

/-- `5 - b` for the bit number b that a priority encoder over the one-hot `f` gives (40 R78); 5 where
`f` is zero, which is the level of the all-ones pattern (40 R72). -/
def fiveMinusBit (f : Pattern) : BitVec 3 :=
  if f = 0b000010#6 then 4#3
  else if f = 0b000100#6 then 3#3
  else if f = 0b001000#6 then 2#3
  else if f = 0b010000#6 then 1#3
  else if f = 0b100000#6 then 0#3
  else 5#3

/-- The response word as the sum of shifted fields that 30 R55 ends with. -/
def shiftedWord (kind idx : BitVec 3) (notify agg clr : Bool) (raw : Pattern) (e : EngineState) :
    ResponseWord :=
  (e.tf.setWidth 32 <<< 24) ||| (e.al.setWidth 32 <<< 21) ||| (e.ar.setWidth 32 <<< 15)
    ||| (raw.setWidth 32 <<< 9) ||| ((BitVec.ofBool clr).setWidth 32 <<< 8)
    ||| ((BitVec.ofBool agg).setWidth 32 <<< 7) ||| ((BitVec.ofBool notify).setWidth 32 <<< 6)
    ||| (idx.setWidth 32 <<< 3) ||| kind.setWidth 32

/-- The EVAL transaction on a well-formed reading (41 R102 to R106). -/
def transactReading (c : Configuration) (e : EngineState) (rd : Pattern) : EngineState × ResponseWord :=
  if !isThermometer rd then
    (e, shiftedWord 1#3 (fiveMinusBit (lowestZero rd)) false false false rd e)
  else if !withinOneStep e.ar rd then (e, shiftedWord 2#3 0#3 false false false rd e)
  else
    let nl := fiveMinusBit (lowestZero rd)
    let isRise := if c.eqIsRise then e.ar ≤ rd else e.ar < rd
    let kept : LevelSet := if isRise then 0#6 else e.tf
    let bit : LevelSet := 1#6 <<< nl.toNat
    let e' : EngineState := { ar := rd, al := nl, tf := kept ||| bit }
    (e', shiftedWord 0#3 nl (kept &&& bit == 0#6) (decide isRise && (c.risenMask &&& bit != 0#6))
      (decide isRise) rd e')

/-- The transaction step `step(cfg, (AR, AL, TF), Q) -> ((AR', AL', TF'), R)` (70 R162), its cases told
apart by the match and mask words of the opcode table (30 R60). -/
def transact (c : Configuration) (e : EngineState) (q : Request) : EngineState × ResponseWord :=
  if q &&& 0x180#9 = 0x000#9 then
    if q &&& 0x040#9 = 0#9 then (e, shiftedWord 3#3 0#3 false false false 0#6 e)
    else transactReading c e (q.setWidth 6)
  else if q &&& 0x180#9 = 0x080#9 then
    let e' : EngineState :=
      { ar := c.defaultReading, al := fiveMinusBit (lowestZero c.defaultReading), tf := 0#6 }
    (e', shiftedWord 4#3 0#3 false false false 0#6 e')
  else if q &&& 0x180#9 = 0x100#9 then (e, shiftedWord 5#3 0#3 false false false 0#6 e)
  else (e, shiftedWord 6#3 0#3 false false false 0#6 e)

/-- The transactions of a sequence of requests: the last `EngineState` and the responses in order
(70 R161). -/
def transactAll (c : Configuration) : EngineState → List Request → EngineState × List ResponseWord
  | e, [] => (e, [])
  | e, q :: qs =>
    let first := transact c e q
    let rest := transactAll c first.1 qs
    (rest.1, first.2 :: rest.2)

/-- The observation of `k` steps of the machine: the response register after each and the last state;
nothing where a step is refused (70 R161). -/
def observeRun : Nat → State → Option (List ResponseWord × State)
  | 0, s => some ([], s)
  | k + 1, s =>
    match step s with
    | .next t =>
      match observeRun k t with
      | some (rs, u) => some (t.resp :: rs, u)
      | none => none
    | .fault _ => none
    | .refused _ => none

end Sys2Proof.Machine
end

