-- ==== Sys2Proof/Certificates/Slice0/Obligations.lean ====
section
/-! DEFINITION. The statements for the provers. Each docstring cites the rules of spec/ it formalises by
their file's number. -/

open Sys2Proof Sys2Proof.Machine

/-- 30 R50, R51, R60: commands and request words correspond one to one, no bit dropped. -/
def Obligations.DecodeInvertsEncode : Prop :=
  (∀ i : Instr, decode (encode i) = i) ∧ (∀ q : Request, encode (decode q) = q)

/-- 30 R60: the decoder looks at `CMD` alone and is total; `FMT_OK` and `RD` are fields of EVAL. -/
def Obligations.DecoderFollowsOpcodeTable : Prop :=
  (∀ q : Request, ∀ row ∈ opcodeTable,
    (q &&& row.mask = row.pattern ↔ (decode q).mnemonic = row.mnemonic)) ∧
  (∀ q : Request, (opcodeTable.filter fun row => q &&& row.mask == row.pattern).length = 1) ∧
  (∀ q q' : Request, q.extractLsb' 7 2 = q'.extractLsb' 7 2 →
    (decode q).mnemonic = (decode q').mnemonic) ∧
  (∀ q : Request, q.extractLsb' 7 2 = 0b00#2 →
    decode q = .eval (q.getLsbD 6) (q.extractLsb' 0 6))

/-- 30 R65 (a derived table) and R61: the worked words. A sanity statement. -/
def Obligations.WorkedRequestWords : Prop :=
  (AsmLine.eval ['0', '1', '1', '1', '1', '1']).assemble = 0x05F#9 ∧
  (AsmLine.eval ['1', '1', '1', '1', '1', '1']).assemble = 0x07F#9 ∧
  (AsmLine.eval ['0', '0', '0', '0', '0', '0']).assemble = 0x040#9 ∧
  (AsmLine.eval ['0', '1', '0', '1', '1', '1']).assemble = 0x057#9 ∧
  (AsmLine.eval ['0', '1', '0', '1', '1']).assemble = 0x000#9 ∧
  (AsmLine.eval ['0', '1', ' ', '1', '1', '1']).assemble = 0x000#9 ∧
  AsmLine.reset.assemble = 0x080#9 ∧ AsmLine.state.assemble = 0x100#9 ∧
  decode 0x05F#9 = .eval true 0b011111#6 ∧ decode 0x07F#9 = .eval true 0b111111#6 ∧
  decode 0x040#9 = .eval true 0b000000#6 ∧ decode 0x057#9 = .eval true 0b010111#6 ∧
  decode 0x000#9 = .eval false 0b000000#6 ∧ decode 0x080#9 = .reset 0#7 ∧
  decode 0x100#9 = .state 0#7 ∧ decode 0x180#9 = .reserved 0#7

/-- 30 R53 (and the operand layout of R52): the format check of the host, and what the block does with
`RD` when it failed. -/
def Obligations.FormatCheckDecidesFmtOk : Prop :=
  (∀ chars : List Char, (chars.length = 6 ∧ ∀ c ∈ chars, c = '0' ∨ c = '1') →
    ∃ rd, (AsmLine.eval chars).instr = .eval true rd ∧
      ∀ i, i < 6 → (rd.getLsbD (5 - i) = true ↔ chars[i]? = some '1')) ∧
  (∀ chars : List Char, ¬ (chars.length = 6 ∧ ∀ c ∈ chars, c = '0' ∨ c = '1') →
    (AsmLine.eval chars).instr = .eval false 0#6) ∧
  (∀ (rd rd' : Pattern) (s : State), exec (.eval false rd) s = exec (.eval false rd') s) ∧
  (∀ (rd : Pattern) (s : State), ∃ t, exec (.eval false rd) s = .next t ∧ rawField t.resp = 0#6)

/-- 30 R63, R64. The spec names neither the blanks of a line, nor a quote inside a string, nor the
digits of a raw word: log 8, the model's choice. -/
def Obligations.AssemblyLinesAreRead : Prop :=
  (∀ chars : List Char, quoteChar ∉ chars ∨ ';' ∉ chars →
    parseLine (['E', 'V', 'A', 'L', ' ', quoteChar] ++ chars ++ [quoteChar])
      = some (.eval chars)) ∧
  (∀ chars comment : List Char, quoteChar ∉ chars →
    parseLine (['E', 'V', 'A', 'L', ' ', quoteChar] ++ chars ++ [quoteChar, ' ', ';'] ++ comment)
      = some (.eval chars)) ∧
  (∀ comment : List Char,
    parseLine (['R', 'E', 'S', 'E', 'T', ' ', ';'] ++ comment) = some .reset ∧
    parseLine (['S', 'T', 'A', 'T', 'E', ' ', ';'] ++ comment) = some .state) ∧
  parseLine ['R', 'E', 'S', 'E', 'T'] = some .reset ∧
  parseLine ['S', 'T', 'A', 'T', 'E'] = some .state ∧
  (∀ (c2 c1 c0 : Char) (d2 d1 d0 : Nat),
    hexDigit c2 = some d2 → hexDigit c1 = some d1 → hexDigit c0 = some d0 →
    256 * d2 + 16 * d1 + d0 < 512 →
    parseLine ['.', 'w', 'o', 'r', 'd', ' ', '0', 'x', c2, c1, c0]
      = some (.word (BitVec.ofNat 9 (256 * d2 + 16 * d1 + d0)))) ∧
  ['0', '1', '2', '3', '4', '5', '6', '7', '8', '9', 'A', 'B', 'C', 'D', 'E', 'F'].map hexDigit
    = (List.range 16).map some ∧
  AsmLine.reset.assemble = 0x080#9 ∧ AsmLine.state.assemble = 0x100#9 ∧
  (∀ q : Request, (AsmLine.word q).assemble = q) ∧
  (∀ (chars : List Char) (rd : Pattern), parseReading chars = some rd →
    (AsmLine.eval chars).assemble = 0b00#2 ++ 1#1 ++ rd) ∧
  (∀ chars : List Char, parseReading chars = none → (AsmLine.eval chars).assemble = 0x000#9) ∧
  (∀ l : AsmLine, decode l.assemble = l.instr)

/-- 30 R54. -/
def Obligations.PayloadOfControlCommandsIgnored : Prop :=
  ∀ (q : Request) (s : State), q.extractLsb' 7 2 ≠ 0b00#2 →
    exec (decode q) s = exec (decode (q &&& 0x180#9)) s

/-- 40 R71, R72, R73: the run-length decoder and the level table. -/
def Obligations.LevelComesFromTrailingRun : Prop :=
  ∀ p : Pattern,
    (∀ b, b < (run p).val → p.getLsbD b = true) ∧
    ((run p).val < 6 → p.getLsbD (run p).val = false) ∧
    (resolve p).toNat = if (run p).val = 6 then 5 else 5 - (run p).val

/-- 40 R74 and its derived form R75. -/
def Obligations.ValidMeansNoZeroBelowAOne : Prop :=
  ∀ p : Pattern,
    (valid p = true ↔ ∀ i j : Fin 6, i < j → digit p i = true → digit p j = true) ∧
    (valid p = true ↔ p.toNat = 2 ^ (run p).val - 1) ∧ (p = 0#6 → valid p = true)

/-- 40 R80: `changed = count of index positions where current[i] != candidate[i]`. -/
def Obligations.DistanceCountsDifferingDigits : Prop :=
  ∀ a b : Pattern,
    hd a b = ((List.finRange 6).filter fun i => digit a i != digit b i).length ∧ hd a b ≤ 6

/-- 70 R155. The queue of port samples is the model's (log 1). -/
def Obligations.StepRunsThePresentedCommand : Prop :=
  ∀ (s : State) (q : Request) (later : List PortSample) (i : Instr),
    s.presents q later → decode q = i → step s = exec i (s.withEdges later)

/-- 70 R162, R155: the clocked step refines the transaction step, here in the forms of 40 R75, R78, R80
and 30 R55. -/
def Obligations.StepPerformsTheTransaction : Prop :=
  ∀ (s : State) (q : Request) (later : List PortSample), s.presents q later →
    step s = .next
      { s with
        ar := (transact s.cfg s.engine q).1.ar
        al := (transact s.cfg s.engine q).1.al
        tf := (transact s.cfg s.engine q).1.tf
        resp := (transact s.cfg s.engine q).2
        respValid := true
        edges := later }

/-- 70 R161, R158; 20 R46: a run is the fold of the transaction step. -/
def Obligations.RunPerformsEveryRequestInOrder : Prop :=
  ∀ (qs : List Request) (s : State), s.wasReset = true →
    s.edges = qs.map (requestSample s.cfg) →
    ∃ u, observeRun qs.length s = some ((transactAll s.cfg s.engine qs).2, u) ∧
      u.engine = (transactAll s.cfg s.engine qs).1 ∧ u.edges = [] ∧ u.cfg = s.cfg ∧
      u.wasReset = true

/-- 70 R150 (and the reset values of 10 R31). -/
def Obligations.ResetEdgeLoadsDefaults : Prop :=
  ∀ (s : State) (p : PortSample) (later : List PortSample), s.edges = p :: later → p.rst = true →
    ∃ t, step s = .next t ∧ t.ar = p.cfg.defaultReading ∧
      t.al = lvl (run p.cfg.defaultReading) ∧ t.tf = 0b000000#6 ∧ t.resp = 0#32 ∧
      t.respValid = false ∧
      ∀ payload, ∃ u, exec (.reset payload) { s with cfg := p.cfg } = .next u ∧
        t.engine = u.engine

/-- 70 R156. -/
def Obligations.IdleEdgeKeepsRegisters : Prop :=
  ∀ (s : State) (p : PortSample) (later : List PortSample), s.edges = p :: later →
    p.rst = false → p.reqValid = false → s.wasReset = true → p.cfg = s.cfg →
    ∃ t, step s = .next t ∧ t.ar = s.ar ∧ t.al = s.al ∧ t.tf = s.tf ∧ t.resp = s.resp ∧
      t.respValid = false

/-- 70 R161, 60 R142 (log 2, the model's reading), and 70 R153 (log 6, the model's reading). Before the
first `rst` edge, where 10 R32 leaves the registers unspecified, that the edge clears `RESP_VALID` and
keeps the rest is the model's choice (log 15). -/
def Obligations.UndrivenBlockWaits : Prop :=
  (∀ s : State, s.edges = [] → step s = .next { s with respValid := false }) ∧
  (∀ (s : State) (p : PortSample) (later : List PortSample), s.edges = p :: later →
    p.rst = false → p.reqValid = false → s.wasReset = false →
    step s = .next { s with respValid := false, cfg := p.cfg, edges := later })

/-- 70 R157 (marked derived by the spec). That it holds at idle edges before the first `rst` edge and
where nothing is driven is the model's choice (log 15, log 2). -/
def Obligations.ResponseValidForOneCycle : Prop :=
  ∀ s t : State, step s = .next t →
    t.respValid = s.requestNext ∧
    (∀ i, s.commandNext = some i → ∃ u, exec i s = .next u ∧ t.resp = u.resp) ∧
    (s.requestNext = false → s.resetNext = false → t.resp = s.resp)

/-- 10 R32, 70 R152 (I1); 10 R30 (I5): the two refusals, and nothing else stops a step (60 R131).
Where they stand is the model's choice: that a block remembers its first `rst` edge (log 4), that a RESET
command is refused before it too (log 14), that the configuration in force is that of the last `rst` edge
(log 5), and that before the first one the inputs may move (log 6). -/
def Obligations.StepStopsOnlyOnHostViolations : Prop :=
  ∀ s : State,
    (∀ f, step s ≠ .fault f) ∧
    (step s = .refused .commandBeforeReset ↔
      ∃ p later, s.edges = p :: later ∧ p.rst = false ∧ p.reqValid = true ∧ s.wasReset = false) ∧
    (step s = .refused .configurationChanged ↔
      ∃ p later, s.edges = p :: later ∧ p.rst = false ∧ s.wasReset = true ∧ p.cfg ≠ s.cfg) ∧
    (∀ r, step s = .refused r → r = .commandBeforeReset ∨ r = .configurationChanged)

/-- 70 R159 items 1 and 2, 60 R131: no command halts the block. What counts as keeping the two duties is
the model's choice (log 4, 5, 6, 14). -/
def Obligations.ConformingHostIsNeverStopped : Prop :=
  ∀ s : State, s.conforms = true → ∃ t, step s = .next t ∧ t.conforms = true

/-- 41 R101. -/
def Obligations.MalformedReadingIsRejected : Prop :=
  ∀ (rd : Pattern) (s : State), ∃ t, exec (.eval false rd) s = .next t ∧
    s.OnlyResponseWritten t ∧ t.Answers 0b011#3 0#3 false false false 0#6

/-- 41 R102, with the locator's rule of 40 R77 spelled out: the last 0 digit, below some 1. The answer
names no part of the state but the echoes, so every recurrence answers alike. -/
def Obligations.InvalidReadingIsSensorFault : Prop :=
  ∀ (rd : Pattern) (s : State), valid rd = false → ∃ t, exec (.eval true rd) s = .next t ∧
    s.OnlyResponseWritten t ∧ t.Answers 0b001#3 (loc rd).sensor false false false rd ∧
    (loc rd).found = true ∧
    ∃ i : Fin 6, (loc rd).sensor = BitVec.ofNat 3 i.val ∧ digit rd i = false ∧
      (∀ j : Fin 6, i < j → digit rd j = true) ∧ (∃ j : Fin 6, j < i ∧ digit rd j = true)

/-- 41 R103. -/
def Obligations.DistantReadingIsRejected : Prop :=
  ∀ (rd : Pattern) (s : State), valid rd = true → hd s.ar rd > 1 →
    mayTransition s.ar rd = false ∧
    ∃ t, exec (.eval true rd) s = .next t ∧
      s.OnlyResponseWritten t ∧ t.Answers 0b010#3 0#3 false false false rd

/-- 41 R104, R105, R106: the accept path, written with the bits themselves. -/
def Obligations.AcceptedReadingUpdatesTheEngine : Prop :=
  ∀ (rd : Pattern) (s : State), valid rd = true → hd s.ar rd ≤ 1 →
    let nl := lvl (run rd)
    let r := decide (s.ar.toNat < rd.toNat) || (s.cfg.eqIsRise && decide (rd = s.ar))
    let tf1 := if r = true then 0#6 else s.tf
    ∃ t, exec (.eval true rd) s = .next t ∧
      t = { s with
        ar := rd, al := nl, tf := tf1 ||| (1#6 <<< nl.toNat), resp := t.resp, respValid := true } ∧
      t.Answers 0b000#3 nl (!tf1.getLsbD nl.toNat) (r && s.cfg.risenMask.getLsbD nl.toNat) r rd

/-- 60 R132. -/
def Obligations.FirstConditionDecidesOutcome : Prop :=
  ∀ (fmtOk : Bool) (rd : Pattern) (s : State), ∃ t, exec (.eval fmtOk rd) s = .next t ∧
    kindField t.resp =
      if fmtOk = false then 0b011#3
      else if valid rd = false then 0b001#3
      else if hd s.ar rd > 1 then 0b010#3
      else 0b000#3

/-- 40 R81. -/
def Obligations.AcceptanceIsTheTransitionPolicy : Prop :=
  ∀ (rd : Pattern) (s : State),
    (∃ t, exec (.eval true rd) s = .next t ∧
      (kindField t.resp = 0b000#3 ↔ mayTransition s.ar rd = true)) ∧
    (mayTransition s.ar rd = true ↔ valid rd = true ∧ hd s.ar rd ≤ 1)

/-- 41 R108, 60 R134: all the writes of an accepted reading or none. -/
def Obligations.RejectionsWriteNoEngineState : Prop :=
  ∀ (fmtOk : Bool) (rd : Pattern) (s : State), ∃ t, exec (.eval fmtOk rd) s = .next t ∧
    (kindField t.resp ≠ 0b000#3 → t.engine = s.engine) ∧
    (kindField t.resp = 0b000#3 → t.tf.getLsbD t.al.toNat = true)

/-- 41 R110 item 1, 20 R44 item 4: debounce idempotence. -/
def Obligations.RepeatedReadingIsDebounced : Prop :=
  ∀ (rd : Pattern) (s t : State), s.cfg.eqIsRise = false →
    exec (.eval true rd) s = .next t → kindField t.resp = 0b000#3 →
    ∃ u, exec (.eval true rd) t = .next u ∧ u.engine = t.engine ∧
      u.Answers 0b000#3 (idxField t.resp) false false false rd

/-- 41 R110 item 1 under `EQ_IS_RISE = 1`. -/
def Obligations.RepeatedReadingRisesWithEqIsRise : Prop :=
  ∀ s : State, s.cfg.eqIsRise = true → valid s.ar = true →
    ∃ t, exec (.eval true s.ar) s = .next t ∧ t.ar = s.ar ∧
      t.tf = 1#6 <<< (lvl (run s.ar)).toNat ∧
      t.Answers 0b000#3 (lvl (run s.ar)) true
        (s.cfg.risenMask.getLsbD (lvl (run s.ar)).toNat) true s.ar

/-- 40 R82 item 3 and R84: the reading moves along the ladder of the seven codes. -/
def Obligations.AcceptedReadingMovesOneStep : Prop :=
  ∀ (rd : Pattern) (s t : State), valid s.ar = true →
    exec (.eval true rd) s = .next t → kindField t.resp = 0b000#3 →
    valid t.ar = true ∧
    (run t.ar).val ≤ (run s.ar).val + 1 ∧ (run s.ar).val ≤ (run t.ar).val + 1 ∧
    (clrField t.resp = true ↔
      (run s.ar).val < (run t.ar).val ∨ (s.cfg.eqIsRise = true ∧ t.ar = s.ar))

/-- 41 R104, R105 on a fall (40 R84), and 41 R110 item 4, 93 I7: the level that all-dry and all-wet
share. -/
def Obligations.FallIntoSeenLevelIsSilent : Prop :=
  (∀ (rd : Pattern) (s : State), valid rd = true → hd s.ar rd ≤ 1 → rd.toNat < s.ar.toNat →
    s.tf.getLsbD (lvl (run rd)).toNat = true →
    ∃ t, exec (.eval true rd) s = .next t ∧
      t = { s with ar := rd, al := lvl (run rd), resp := t.resp, respValid := true } ∧
      t.Answers 0b000#3 (lvl (run rd)) false false false rd) ∧
  resolve 0b111111#6 = 5#3 ∧ resolve 0b000000#6 = 5#3

/-- 41 R104, R110 item 7. -/
def Obligations.RisenMaskDecidesOnlyAggregate : Prop :=
  ∀ (i : Instr) (s : State) (m : LevelSet),
    ∃ t u, exec i s = .next t ∧ exec i { s with cfg := { s.cfg with risenMask := m } } = .next u ∧
      u = { t with cfg := { t.cfg with risenMask := m }, resp := u.resp } ∧
      kindField u.resp = kindField t.resp ∧ idxField u.resp = idxField t.resp ∧
      notifyField u.resp = notifyField t.resp ∧ clrField u.resp = clrField t.resp ∧
      rawField u.resp = rawField t.resp ∧ sReadingField u.resp = sReadingField t.resp ∧
      sLevelField u.resp = sLevelField t.resp ∧ sFlagsField u.resp = sFlagsField t.resp ∧
      reservedField u.resp = reservedField t.resp ∧
      (clrField t.resp = false → u.resp = t.resp)

/-- 42 R120, R121. -/
def Obligations.ResetCommandLoadsDefault : Prop :=
  ∀ (payload : BitVec 7) (s : State), ∃ t, exec (.reset payload) s = .next t ∧
    t = { s with
      ar := s.cfg.defaultReading, al := lvl (run s.cfg.defaultReading), tf := 0b000000#6,
      resp := t.resp, respValid := true } ∧
    t.Answers 0b100#3 0#3 false false false 0#6 ∧
    (s.cfg.defaultReading = 0b111111#6 → t.resp = 0x00BF8004#32) ∧
    ∀ payload', exec (.reset payload') t = .next t

/-- 42 R122, R123. -/
def Obligations.StateAnswersSnapshot : Prop :=
  (∀ (payload : BitVec 7) (s : State), ∃ t, exec (.state payload) s = .next t ∧
    s.OnlyResponseWritten t ∧ t.Answers 0b101#3 0#3 false false false 0#6 ∧
    sReadingField t.resp = s.ar ∧ sLevelField t.resp = s.al ∧ sFlagsField t.resp = s.tf ∧
    ∀ i, exec i t = exec i s) ∧
  (∀ (payload payload' : BitVec 7) (s : State), ∃ t u, exec (.reset payload) s = .next t ∧
    exec (.state payload') t = .next u ∧ sReadingField u.resp = s.cfg.defaultReading ∧
    sLevelField u.resp = lvl (run s.cfg.defaultReading) ∧ sFlagsField u.resp = 0#6 ∧
    (s.cfg.defaultReading = 0b111111#6 → u.resp = 0x00BF8005#32))

/-- 42 R124 (and 30 R61). -/
def Obligations.ReservedCommandIsIllegal : Prop :=
  (∀ (payload : BitVec 7) (s : State), ∃ t, exec (.reserved payload) s = .next t ∧
    s.OnlyResponseWritten t ∧ t.Answers 0b110#3 0#3 false false false 0#6 ∧
    ∀ q : Request, 0x180 ≤ q.toNat → exec (decode q) s = .next t) ∧
  (∀ (payload payload' : BitVec 7) (s : State), s.cfg.defaultReading = 0b111111#6 →
    ∃ t u, exec (.reset payload) s = .next t ∧ exec (.reserved payload') t = .next u ∧
      u.resp = 0x00BF8006#32)

/-- 60 R131: no outcome is a trap, every command completes; with the frame common to all commands. -/
def Obligations.EveryCommandCompletes : Prop :=
  ∀ (i : Instr) (s : State), ∃ t, exec i s = .next t ∧ t.respValid = true ∧
    t.cfg = s.cfg ∧ t.wasReset = s.wasReset ∧ t.edges = s.edges

/-- 30 R55, the formula it ends with. -/
def Obligations.ResponseIsSumOfShiftedFields : Prop :=
  ∀ (r : Reply) (ar : Pattern) (al : LevelIndex) (tf : LevelSet),
    responseWord r ar al tf =
      (tf.setWidth 32 <<< 24) ||| (al.setWidth 32 <<< 21) ||| (ar.setWidth 32 <<< 15)
        ||| (r.raw.setWidth 32 <<< 9) ||| ((BitVec.ofBool r.clr).setWidth 32 <<< 8)
        ||| ((BitVec.ofBool r.agg).setWidth 32 <<< 7)
        ||| ((BitVec.ofBool r.notify).setWidth 32 <<< 6)
        ||| (r.idx.setWidth 32 <<< 3) ||| r.kind.code.setWidth 32

/-- 30 R58 (and the KIND codes of R56, R61). -/
def Obligations.UndefinedResponseFieldsAreZero : Prop :=
  (∀ (i : Instr) (s : State), ∃ t, exec i s = .next t ∧ reservedField t.resp = 0#2 ∧
    kindField t.resp ≠ 0b111#3 ∧
    (kindField t.resp ≠ 0b000#3 →
      notifyField t.resp = false ∧ aggField t.resp = false ∧ clrField t.resp = false) ∧
    (kindField t.resp ≠ 0b000#3 → kindField t.resp ≠ 0b001#3 → idxField t.resp = 0#3) ∧
    (kindField t.resp ≠ 0b000#3 → kindField t.resp ≠ 0b001#3 → kindField t.resp ≠ 0b010#3 →
      rawField t.resp = 0#6)) ∧
  (∀ (i : Instr) (s s' : State), s.engine = s'.engine → s.cfg = s'.cfg →
    ∃ t t', exec i s = .next t ∧ exec i s' = .next t' ∧ t.resp = t'.resp ∧ t.engine = t'.engine)

/-- 30 R59. -/
def Obligations.EveryResponseEchoesState : Prop :=
  ∀ (i : Instr) (s : State), ∃ t, exec i s = .next t ∧
    sReadingField t.resp = t.ar ∧ sLevelField t.resp = t.al ∧ sFlagsField t.resp = t.tf ∧
    (kindField t.resp ≠ 0b000#3 → kindField t.resp ≠ 0b100#3 →
      sReadingField t.resp = s.ar ∧ sLevelField t.resp = s.al ∧ sFlagsField t.resp = s.tf)

/-- 30 R56, R57; 60 R130. -/
def Obligations.EveryResponseCarriesItsDecision : Prop :=
  ∀ s : State,
    (∀ rd, ∃ t, exec (.eval false rd) s = .next t ∧
      readDecision t.resp = some .formatOrUnresolvable) ∧
    (∀ rd, valid rd = false → ∃ t, exec (.eval true rd) s = .next t ∧
      readDecision t.resp = some (.sensorFault (loc rd).sensor rd)) ∧
    (∀ rd, valid rd = true → hd s.ar rd > 1 → ∃ t, exec (.eval true rd) s = .next t ∧
      readDecision t.resp = some (.multiStepJump rd)) ∧
    (∀ rd, valid rd = true → hd s.ar rd ≤ 1 →
      let nl := lvl (run rd)
      let r := decide (s.ar.toNat < rd.toNat) || (s.cfg.eqIsRise && decide (rd = s.ar))
      let tf1 := if r = true then 0#6 else s.tf
      ∃ t, exec (.eval true rd) s = .next t ∧ t.al = nl ∧
        readDecision t.resp = some (.accepted nl (!tf1.getLsbD nl.toNat)
          (r && s.cfg.risenMask.getLsbD nl.toNat) r)) ∧
    (∀ p, ∃ t, exec (.reset p) s = .next t ∧ readDecision t.resp = some .resetDone) ∧
    (∀ p, ∃ t, exec (.state p) s = .next t ∧
      readDecision t.resp = some (.currentState s.ar s.al s.tf)) ∧
    (∀ p, ∃ t, exec (.reserved p) s = .next t ∧ readDecision t.resp = some .illegal)

/-- 10 R21 to R24: who writes the three registers. -/
def Obligations.EngineWritersAreAcceptAndReset : Prop :=
  ∀ s t : State, step s = .next t → t.engine ≠ s.engine →
    t.al.toNat ≤ 5 ∧ t.al = lvl (run t.ar) ∧
    (s.resetNext = true ∨ (∃ payload, s.commandNext = some (.reset payload)) ∨
      ∃ rd, s.commandNext = some (.eval true rd) ∧ kindField t.resp = 0b000#3 ∧ t.ar = rd)

/-- 10 R30; the fields are the model's own (log 1, log 4, log 5). -/
def Obligations.ConfigurationHoldsBetweenResets : Prop :=
  ∀ s t : State, step s = .next t →
    t.edges = s.edges.tail ∧
    (s.wasReset = true → t.wasReset = true ∧ (s.resetNext = false → t.cfg = s.cfg)) ∧
    (∀ p later, s.edges = p :: later → p.rst = true → t.wasReset = true ∧ t.cfg = p.cfg)

/-- 10 R31, R33. The configuration and the empty drive of `State.reset` are the model's choice (log 3,
log 7); the first clause holds under every configuration. -/
def Obligations.InvariantsHoldAtReset : Prop :=
  (∀ c : Configuration, (State.resetWith c).EngineInv ∧ (State.resetWith c).HistoryInv false ∧
    (State.resetWith c).EchoInv ∧ (State.resetWith c).conforms = true) ∧
  Sys2Proof.core.reset = State.resetWith Configuration.initial

/-- 10 R33 (marked derived by the spec), items 1 and 2, and 3 and 4 as a disjunction. -/
def Obligations.StepKeepsEngineInvariant : Prop :=
  ∀ s t : State, s.EngineInv → step s = .next t → t.EngineInv

/-- 10 R33 items 3 and 4 with their history. -/
def Obligations.StepKeepsHistoryInvariant : Prop :=
  ∀ (accepted : Bool) (s t : State), s.HistoryInv accepted → step s = .next t →
    t.HistoryInv (acceptedSinceReset accepted s t)

/-- 30 R58, R59, R61; 70 R157. -/
def Obligations.StepKeepsOutputsEchoing : Prop :=
  ∀ s t : State, step s = .next t → t.EchoInv
end

