-- ==== Sys2Proof/Laws/Response.lean ====
section
/-! SUPPORT. Each field of a response word, read back from the word of a reply (spec 30 R55). -/

namespace Sys2Proof.Machine

variable (r : Reply) (ar : Pattern) (al : LevelIndex) (tf : LevelSet)

@[simp] theorem kindField_responseWord : kindField (responseWord r ar al tf) = r.kind.code := by
  apply BitVec.eq_of_getLsbD_eq
  intro i hi
  simp only [kindField, responseWord, BitVec.getLsbD_extractLsb', BitVec.getLsbD_append]
  interval_cases i <;> simp

@[simp] theorem idxField_responseWord : idxField (responseWord r ar al tf) = r.idx := by
  apply BitVec.eq_of_getLsbD_eq
  intro i hi
  simp only [idxField, responseWord, BitVec.getLsbD_extractLsb', BitVec.getLsbD_append]
  interval_cases i <;> simp

@[simp] theorem rawField_responseWord : rawField (responseWord r ar al tf) = r.raw := by
  apply BitVec.eq_of_getLsbD_eq
  intro i hi
  simp only [rawField, responseWord, BitVec.getLsbD_extractLsb', BitVec.getLsbD_append]
  interval_cases i <;> simp

@[simp] theorem sReadingField_responseWord : sReadingField (responseWord r ar al tf) = ar := by
  apply BitVec.eq_of_getLsbD_eq
  intro i hi
  simp only [sReadingField, responseWord, BitVec.getLsbD_extractLsb', BitVec.getLsbD_append]
  interval_cases i <;> simp

@[simp] theorem sLevelField_responseWord : sLevelField (responseWord r ar al tf) = al := by
  apply BitVec.eq_of_getLsbD_eq
  intro i hi
  simp only [sLevelField, responseWord, BitVec.getLsbD_extractLsb', BitVec.getLsbD_append]
  interval_cases i <;> simp

@[simp] theorem sFlagsField_responseWord : sFlagsField (responseWord r ar al tf) = tf := by
  apply BitVec.eq_of_getLsbD_eq
  intro i hi
  simp only [sFlagsField, responseWord, BitVec.getLsbD_extractLsb', BitVec.getLsbD_append]
  interval_cases i <;> simp

@[simp] theorem reservedField_responseWord : reservedField (responseWord r ar al tf) = 0b00#2 := by
  apply BitVec.eq_of_getLsbD_eq
  intro i hi
  simp only [reservedField, responseWord, BitVec.getLsbD_extractLsb', BitVec.getLsbD_append]
  interval_cases i <;> simp

@[simp] theorem notifyField_responseWord : notifyField (responseWord r ar al tf) = r.notify := by
  simp only [notifyField, responseWord, BitVec.getLsbD_append]
  simp

@[simp] theorem aggField_responseWord : aggField (responseWord r ar al tf) = r.agg := by
  simp only [aggField, responseWord, BitVec.getLsbD_append]
  simp

@[simp] theorem clrField_responseWord : clrField (responseWord r ar al tf) = r.clr := by
  simp only [clrField, responseWord, BitVec.getLsbD_append]
  simp

/-- 30 R56: the codes tell the outcomes apart. -/
theorem Kind.code_inj : ∀ k l : Kind, k.code = l.code → k = l := by
  intro k l
  cases k <;> cases l <;> decide

/-- 30 R61: `111` is no outcome's code. -/
theorem Kind.code_ne_seven (k : Kind) : k.code ≠ 0b111#3 := by cases k <;> decide

end Sys2Proof.Machine
end

