-- ==== Sys2Proof/Laws/State.lean ====
section
/-! SUPPORT. What each named update of the state does to each field, so that no later proof unfolds a
record update. -/

namespace Sys2Proof.Machine

variable (s : State)

/-! ### `writeEngine` -/

@[simp] theorem State.writeEngine_ar (ar : Pattern) (al : LevelIndex) (tf : LevelSet) : (s.writeEngine ar al tf).ar = ar := rfl
@[simp] theorem State.writeEngine_al (ar : Pattern) (al : LevelIndex) (tf : LevelSet) : (s.writeEngine ar al tf).al = al := rfl
@[simp] theorem State.writeEngine_tf (ar : Pattern) (al : LevelIndex) (tf : LevelSet) : (s.writeEngine ar al tf).tf = tf := rfl
@[simp] theorem State.writeEngine_resp (ar : Pattern) (al : LevelIndex) (tf : LevelSet) : (s.writeEngine ar al tf).resp = s.resp := rfl
@[simp] theorem State.writeEngine_respValid (ar : Pattern) (al : LevelIndex) (tf : LevelSet) : (s.writeEngine ar al tf).respValid = s.respValid := rfl
@[simp] theorem State.writeEngine_cfg (ar : Pattern) (al : LevelIndex) (tf : LevelSet) : (s.writeEngine ar al tf).cfg = s.cfg := rfl
@[simp] theorem State.writeEngine_wasReset (ar : Pattern) (al : LevelIndex) (tf : LevelSet) : (s.writeEngine ar al tf).wasReset = s.wasReset := rfl
@[simp] theorem State.writeEngine_edges (ar : Pattern) (al : LevelIndex) (tf : LevelSet) : (s.writeEngine ar al tf).edges = s.edges := rfl

/-! ### `putResponse` -/

@[simp] theorem State.putResponse_ar (w : ResponseWord) : (s.putResponse w).ar = s.ar := rfl
@[simp] theorem State.putResponse_al (w : ResponseWord) : (s.putResponse w).al = s.al := rfl
@[simp] theorem State.putResponse_tf (w : ResponseWord) : (s.putResponse w).tf = s.tf := rfl
@[simp] theorem State.putResponse_resp (w : ResponseWord) : (s.putResponse w).resp = w := rfl
@[simp] theorem State.putResponse_respValid (w : ResponseWord) : (s.putResponse w).respValid = true := rfl
@[simp] theorem State.putResponse_cfg (w : ResponseWord) : (s.putResponse w).cfg = s.cfg := rfl
@[simp] theorem State.putResponse_wasReset (w : ResponseWord) : (s.putResponse w).wasReset = s.wasReset := rfl
@[simp] theorem State.putResponse_edges (w : ResponseWord) : (s.putResponse w).edges = s.edges := rfl

/-! ### `clearResponse` -/

@[simp] theorem State.clearResponse_ar : (s.clearResponse).ar = s.ar := rfl
@[simp] theorem State.clearResponse_al : (s.clearResponse).al = s.al := rfl
@[simp] theorem State.clearResponse_tf : (s.clearResponse).tf = s.tf := rfl
@[simp] theorem State.clearResponse_resp : (s.clearResponse).resp = 0#32 := rfl
@[simp] theorem State.clearResponse_respValid : (s.clearResponse).respValid = false := rfl
@[simp] theorem State.clearResponse_cfg : (s.clearResponse).cfg = s.cfg := rfl
@[simp] theorem State.clearResponse_wasReset : (s.clearResponse).wasReset = s.wasReset := rfl
@[simp] theorem State.clearResponse_edges : (s.clearResponse).edges = s.edges := rfl

/-! ### `dropValid` -/

@[simp] theorem State.dropValid_ar : (s.dropValid).ar = s.ar := rfl
@[simp] theorem State.dropValid_al : (s.dropValid).al = s.al := rfl
@[simp] theorem State.dropValid_tf : (s.dropValid).tf = s.tf := rfl
@[simp] theorem State.dropValid_resp : (s.dropValid).resp = s.resp := rfl
@[simp] theorem State.dropValid_respValid : (s.dropValid).respValid = false := rfl
@[simp] theorem State.dropValid_cfg : (s.dropValid).cfg = s.cfg := rfl
@[simp] theorem State.dropValid_wasReset : (s.dropValid).wasReset = s.wasReset := rfl
@[simp] theorem State.dropValid_edges : (s.dropValid).edges = s.edges := rfl

/-! ### `takeConfig` -/

@[simp] theorem State.takeConfig_ar (c : Configuration) : (s.takeConfig c).ar = s.ar := rfl
@[simp] theorem State.takeConfig_al (c : Configuration) : (s.takeConfig c).al = s.al := rfl
@[simp] theorem State.takeConfig_tf (c : Configuration) : (s.takeConfig c).tf = s.tf := rfl
@[simp] theorem State.takeConfig_resp (c : Configuration) : (s.takeConfig c).resp = s.resp := rfl
@[simp] theorem State.takeConfig_respValid (c : Configuration) : (s.takeConfig c).respValid = s.respValid := rfl
@[simp] theorem State.takeConfig_cfg (c : Configuration) : (s.takeConfig c).cfg = c := rfl
@[simp] theorem State.takeConfig_wasReset (c : Configuration) : (s.takeConfig c).wasReset = s.wasReset := rfl
@[simp] theorem State.takeConfig_edges (c : Configuration) : (s.takeConfig c).edges = s.edges := rfl

/-! ### `markReset` -/

@[simp] theorem State.markReset_ar : (s.markReset).ar = s.ar := rfl
@[simp] theorem State.markReset_al : (s.markReset).al = s.al := rfl
@[simp] theorem State.markReset_tf : (s.markReset).tf = s.tf := rfl
@[simp] theorem State.markReset_resp : (s.markReset).resp = s.resp := rfl
@[simp] theorem State.markReset_respValid : (s.markReset).respValid = s.respValid := rfl
@[simp] theorem State.markReset_cfg : (s.markReset).cfg = s.cfg := rfl
@[simp] theorem State.markReset_wasReset : (s.markReset).wasReset = true := rfl
@[simp] theorem State.markReset_edges : (s.markReset).edges = s.edges := rfl

/-! ### `withEdges` -/

@[simp] theorem State.withEdges_ar (ps : List PortSample) : (s.withEdges ps).ar = s.ar := rfl
@[simp] theorem State.withEdges_al (ps : List PortSample) : (s.withEdges ps).al = s.al := rfl
@[simp] theorem State.withEdges_tf (ps : List PortSample) : (s.withEdges ps).tf = s.tf := rfl
@[simp] theorem State.withEdges_resp (ps : List PortSample) : (s.withEdges ps).resp = s.resp := rfl
@[simp] theorem State.withEdges_respValid (ps : List PortSample) : (s.withEdges ps).respValid = s.respValid := rfl
@[simp] theorem State.withEdges_cfg (ps : List PortSample) : (s.withEdges ps).cfg = s.cfg := rfl
@[simp] theorem State.withEdges_wasReset (ps : List PortSample) : (s.withEdges ps).wasReset = s.wasReset := rfl
@[simp] theorem State.withEdges_edges (ps : List PortSample) : (s.withEdges ps).edges = ps := rfl

/-! ### `loadDefault` -/

@[simp] theorem State.loadDefault_ar : (s.loadDefault).ar = s.cfg.defaultReading := rfl
@[simp] theorem State.loadDefault_al : (s.loadDefault).al = lvl (run s.cfg.defaultReading) := rfl
@[simp] theorem State.loadDefault_tf : (s.loadDefault).tf = 0b000000#6 := rfl
@[simp] theorem State.loadDefault_resp : (s.loadDefault).resp = s.resp := rfl
@[simp] theorem State.loadDefault_respValid : (s.loadDefault).respValid = s.respValid := rfl
@[simp] theorem State.loadDefault_cfg : (s.loadDefault).cfg = s.cfg := rfl
@[simp] theorem State.loadDefault_wasReset : (s.loadDefault).wasReset = s.wasReset := rfl
@[simp] theorem State.loadDefault_edges : (s.loadDefault).edges = s.edges := rfl

/-! ### The reset state -/

@[simp] theorem State.resetWith_ar (c : Configuration) : (State.resetWith c).ar = c.defaultReading := rfl
@[simp] theorem State.resetWith_al (c : Configuration) : (State.resetWith c).al = lvl (run c.defaultReading) := rfl
@[simp] theorem State.resetWith_tf (c : Configuration) : (State.resetWith c).tf = 0b000000#6 := rfl
@[simp] theorem State.resetWith_resp (c : Configuration) : (State.resetWith c).resp = 0#32 := rfl
@[simp] theorem State.resetWith_respValid (c : Configuration) : (State.resetWith c).respValid = false := rfl
@[simp] theorem State.resetWith_cfg (c : Configuration) : (State.resetWith c).cfg = c := rfl
@[simp] theorem State.resetWith_wasReset (c : Configuration) : (State.resetWith c).wasReset = true := rfl
@[simp] theorem State.resetWith_edges (c : Configuration) : (State.resetWith c).edges = [] := rfl

end Sys2Proof.Machine
end

