-- ==== Sys2Proof/Laws/Ops.lean ====
section
/-! SUPPORT. What each shared operation answers, and the cases of EVAL, said once. -/

namespace Sys2Proof.Machine

/-- `respond` always answers, and writes only the response register (70 R155). -/
theorem respond_eq_next (r : Reply) (s : State) :
    respond r s = .next (s.putResponse (responseWord r s.ar s.al s.tf)) := rfl

/-- The state an accepted reading leaves (41 R104 to R106). -/
theorem acceptReading_eq_next (rd : Pattern) (s : State) :
    acceptReading rd s =
      .next ((s.writeEngine rd (lvl (run rd)) (acceptFlags rd s)).putResponse
        (responseWord (acceptReply rd s) rd (lvl (run rd)) (acceptFlags rd s))) := rfl

@[simp] theorem acceptReply_kind (rd : Pattern) (s : State) :
    (acceptReply rd s).kind = .accepted := rfl
@[simp] theorem acceptReply_idx (rd : Pattern) (s : State) :
    (acceptReply rd s).idx = lvl (run rd) := rfl
@[simp] theorem acceptReply_notify (rd : Pattern) (s : State) :
    (acceptReply rd s).notify =
      needsNotify (clearOnRise (rise s.cfg.eqIsRise s.ar rd) s.tf) (lvl (run rd)) := rfl
@[simp] theorem acceptReply_agg (rd : Pattern) (s : State) :
    (acceptReply rd s).agg =
      needsAggregate (rise s.cfg.eqIsRise s.ar rd) s.cfg.risenMask (lvl (run rd)) := rfl
@[simp] theorem acceptReply_clr (rd : Pattern) (s : State) :
    (acceptReply rd s).clr = rise s.cfg.eqIsRise s.ar rd := rfl
@[simp] theorem acceptReply_raw (rd : Pattern) (s : State) : (acceptReply rd s).raw = rd := rfl

/-- The four ways EVAL ends, in the order of 60 R132. -/
theorem execEval_cases (fmtOk : Bool) (rd : Pattern) (s : State) :
    (fmtOk = false ∧ execEval fmtOk rd s = respond { kind := .rejFmt } s) ∨
    (fmtOk = true ∧ valid rd = false ∧
      execEval fmtOk rd s =
        respond { kind := .sensorFault, idx := (loc rd).sensor, raw := rd } s) ∨
    (fmtOk = true ∧ valid rd = true ∧ hd s.ar rd > 1 ∧
      execEval fmtOk rd s = respond { kind := .rejMsj, raw := rd } s) ∨
    (fmtOk = true ∧ valid rd = true ∧ hd s.ar rd ≤ 1 ∧
      execEval fmtOk rd s = acceptReading rd s) := by
  cases fmtOk with
  | false => exact .inl ⟨rfl, rfl⟩
  | true =>
    rcases Bool.eq_false_or_eq_true (valid rd) with hv | hv
    · by_cases hd1 : hd s.ar rd > 1
      · exact .inr (.inr (.inl ⟨rfl, hv, hd1, by simp [execEval, hv, hd1]⟩))
      · exact .inr (.inr (.inr ⟨rfl, hv, by omega, by simp [execEval, hv, hd1]⟩))
    · exact .inr (.inl ⟨rfl, hv, by simp [execEval, hv]⟩)

/-- Every command is a write of the `EngineState` followed by a response that echoes it: the registers,
and nothing else but `RESP` and `RESP_VALID` (10 R24; 20 R43; 30 R59). -/
theorem exec_shape (i : Instr) (s : State) :
    ∃ ar al tf r, exec i s =
      .next ((s.writeEngine ar al tf).putResponse (responseWord r ar al tf)) := by
  cases i with
  | eval fmtOk rd =>
    rcases execEval_cases fmtOk rd s with ⟨_, h⟩ | ⟨_, _, h⟩ | ⟨_, _, _, h⟩ | ⟨_, _, _, h⟩
    · exact ⟨s.ar, s.al, s.tf, _, h⟩
    · exact ⟨s.ar, s.al, s.tf, _, h⟩
    · exact ⟨s.ar, s.al, s.tf, _, h⟩
    · exact ⟨_, _, _, _, h⟩
  | reset payload => exact ⟨_, _, _, _, rfl⟩
  | state payload => exact ⟨s.ar, s.al, s.tf, _, rfl⟩
  | reserved payload => exact ⟨s.ar, s.al, s.tf, _, rfl⟩

/-! ### The two edges that perform no command -/

@[simp] theorem resetEdge_ar (c : Configuration) (s : State) :
    (resetEdge c s).ar = c.defaultReading := rfl
@[simp] theorem resetEdge_al (c : Configuration) (s : State) :
    (resetEdge c s).al = lvl (run c.defaultReading) := rfl
@[simp] theorem resetEdge_tf (c : Configuration) (s : State) :
    (resetEdge c s).tf = 0b000000#6 := rfl
@[simp] theorem resetEdge_resp (c : Configuration) (s : State) : (resetEdge c s).resp = 0#32 := rfl
@[simp] theorem resetEdge_respValid (c : Configuration) (s : State) :
    (resetEdge c s).respValid = false := rfl
@[simp] theorem resetEdge_cfg (c : Configuration) (s : State) : (resetEdge c s).cfg = c := rfl
@[simp] theorem resetEdge_wasReset (c : Configuration) (s : State) :
    (resetEdge c s).wasReset = true := rfl
@[simp] theorem resetEdge_edges (c : Configuration) (s : State) :
    (resetEdge c s).edges = s.edges := rfl

@[simp] theorem idleEdge_ar (s : State) : (idleEdge s).ar = s.ar := rfl
@[simp] theorem idleEdge_al (s : State) : (idleEdge s).al = s.al := rfl
@[simp] theorem idleEdge_tf (s : State) : (idleEdge s).tf = s.tf := rfl
@[simp] theorem idleEdge_resp (s : State) : (idleEdge s).resp = s.resp := rfl
@[simp] theorem idleEdge_respValid (s : State) : (idleEdge s).respValid = false := rfl
@[simp] theorem idleEdge_cfg (s : State) : (idleEdge s).cfg = s.cfg := rfl
@[simp] theorem idleEdge_wasReset (s : State) : (idleEdge s).wasReset = s.wasReset := rfl
@[simp] theorem idleEdge_edges (s : State) : (idleEdge s).edges = s.edges := rfl

end Sys2Proof.Machine
end

