-- ==== Sys2Proof/Laws/Pattern.lean ====
section
/-! SUPPORT. Facts of the pattern functions and the flags, over all 64 patterns, that link the loops of
spec file 40 to its derived identities. -/

namespace Sys2Proof.Machine

set_option maxRecDepth 4000 in
/-- 40 R75: the digit scan and the bit identity agree. -/
theorem valid_eq_isThermometer : ∀ p : Pattern, valid p = isThermometer p := by decide

set_option maxRecDepth 4000 in
/-- 40 R80: a popcount of at most 1 is `(x & (x - 1)) == 0`. -/
theorem popcount_le_one_iff : ∀ x : Pattern, popcount x ≤ 1 ↔ x &&& (x - 1#6) = 0#6 := by decide

set_option maxRecDepth 4000 in
/-- 40 R72, R78: the level of a reading from the vector of its lowest 0 bit. -/
theorem lvl_run_eq_fiveMinusBit :
    ∀ p : Pattern, lvl (run p) = fiveMinusBit (lowestZero p) := by decide

set_option maxRecDepth 4000 in
/-- 40 R78: the fault locator from the vector of the lowest 0 bit. -/
theorem loc_sensor_eq_fiveMinusBit :
    ∀ p : Pattern, valid p = false → (loc p).sensor = fiveMinusBit (lowestZero p) := by decide

set_option maxRecDepth 4000 in
/-- The numeric value of a valid code grows with its run (40 R84). -/
theorem valid_code_value :
    ∀ p : Pattern, valid p = true → p.toNat = 2 ^ (run p).val - 1 := by decide

/-- 10 R22: a level index is at most 5. -/
theorem lvl_toNat_le_five : ∀ r : Fin 7, (lvl r).toNat ≤ 5 := by decide

/-- 40 R80: no distance from a pattern to itself. -/
theorem hd_self (a : Pattern) : hd a a = 0 := by
  unfold hd
  rw [BitVec.xor_self]
  decide

/-- 40 R83: an equal candidate is a rise exactly when `EQ_IS_RISE` says so. -/
theorem rise_self (eqIsRise : Bool) (a : Pattern) : rise eqIsRise a a = eqIsRise := by
  simp [rise]

theorem hd_le_one_iff_withinOneStep (a b : Pattern) : hd a b ≤ 1 ↔ withinOneStep a b = true := by
  simp [hd, withinOneStep, popcount_le_one_iff]

/-! ### Flags -/

set_option maxRecDepth 4000 in
/-- The single flag of a level index is nonzero in a set iff the index is in it. -/
theorem inSet_eq_and_bit : ∀ (m : LevelSet) (r : Fin 7),
    inSet m (lvl r) = (m &&& (1#6 <<< (lvl r).toNat) != 0#6) := by decide

set_option maxRecDepth 4000 in
/-- 41 R105: the new level's flag is set after the command. -/
theorem inSet_markSeen_self : ∀ (m : LevelSet) (r : Fin 7),
    inSet (markSeen m (lvl r)) (lvl r) = true := by decide

set_option maxRecDepth 4000 in
/-- Marking a level that is already seen changes nothing. -/
theorem markSeen_of_inSet : ∀ (m : LevelSet) (r : Fin 7),
    inSet m (lvl r) = true → markSeen m (lvl r) = m := by decide

@[simp] theorem clearOnRise_true (tf : LevelSet) : clearOnRise true tf = 0b000000#6 := rfl

@[simp] theorem clearOnRise_false (tf : LevelSet) : clearOnRise false tf = tf := rfl

end Sys2Proof.Machine
end

