-- ==== Sys2Proof/Laws/PerInstr.lean ====
section
/-! SUPPORT. A fact of every command as syntax, one lemma per constructor: the request a host should
send in its place (spec 30 R53, R54) is well-formed, has the same command code, and is its own canonical
form. -/

namespace Sys2Proof.Laws

/-- The canonical request is well-formed, canonical, and selects the same row of the opcode table. -/
def CanonicalRequest.Statement (i : Instr) : Prop :=
  i.canonical.wellFormed = true ∧ i.canonical.canonical = i.canonical ∧
    i.canonical.mnemonic = i.mnemonic ∧ (i.wellFormed = true → i.canonical = i)

theorem CanonicalRequest.eval (fmtOk : Bool) (rd : Pattern) :
    CanonicalRequest.Statement (.eval fmtOk rd) := by
  cases fmtOk with
  | true => exact ⟨rfl, rfl, rfl, fun _ => rfl⟩
  | false =>
    refine ⟨rfl, rfl, rfl, fun h => ?_⟩
    have h' : rd = 0#6 := by simpa [Instr.wellFormed] using h
    rw [h', Instr.canonical]

theorem CanonicalRequest.reset (payload : BitVec 7) : CanonicalRequest.Statement (.reset payload) := by
  refine ⟨rfl, rfl, rfl, fun h => ?_⟩
  have h' : payload = 0#7 := by simpa [Instr.wellFormed] using h
  rw [h', Instr.canonical]

theorem CanonicalRequest.state (payload : BitVec 7) : CanonicalRequest.Statement (.state payload) := by
  refine ⟨rfl, rfl, rfl, fun h => ?_⟩
  have h' : payload = 0#7 := by simpa [Instr.wellFormed] using h
  rw [h', Instr.canonical]

theorem CanonicalRequest.reserved (payload : BitVec 7) :
    CanonicalRequest.Statement (.reserved payload) := by
  refine ⟨rfl, rfl, rfl, fun h => ?_⟩
  have h' : payload = 0#7 := by simpa [Instr.wellFormed] using h
  rw [h', Instr.canonical]

end Sys2Proof.Laws
end

