-- ==== Sys2Proof/Laws/Safety.lean ====
section
/-! SUPPORT. How the terms of the claims relate to the named operations. -/

namespace Sys2Proof.Machine

/-- A response put after the writes of a command answers with exactly the reply's fields. -/
theorem State.putResponse_answers (s : State) (r : Reply) :
    (s.putResponse (responseWord r s.ar s.al s.tf)).Answers
      r.kind.code r.idx r.notify r.agg r.clr r.raw := by
  simp [State.Answers]

/-- A response alone writes nothing else. -/
theorem State.putResponse_onlyResponse (s : State) (w : ResponseWord) :
    s.OnlyResponseWritten (s.putResponse w) := rfl

@[simp] theorem State.putResponse_engine (s : State) (w : ResponseWord) :
    (s.putResponse w).engine = s.engine := rfl

@[simp] theorem State.withEdges_engine (s : State) (ps : List PortSample) :
    (s.withEdges ps).engine = s.engine := rfl

end Sys2Proof.Machine
end

