-- ==== Sys2Proof/Laws/Step.lean ====
section
/-! SUPPORT. What one step can do, said once: the inversion lemma of the clock edge. -/

namespace Sys2Proof.Machine

/-- Everything a step that answers a next state has done: it waited with nothing driven, took a reset
edge, idled before or after the first reset, or performed a command (70 R150, R155, R156). -/
theorem step_next_cases {s t : State} (h : step s = .next t) :
    (s.edges = [] ∧ t = idleEdge s) ∨
    ∃ p ps, s.edges = p :: ps ∧
      ((p.rst = true ∧ t = resetEdge p.cfg (s.withEdges ps)) ∨
       (p.rst = false ∧ p.reqValid = false ∧ s.wasReset = false ∧
          t = idleEdge ((s.withEdges ps).takeConfig p.cfg)) ∨
       (p.rst = false ∧ p.reqValid = false ∧ s.wasReset = true ∧ p.cfg = s.cfg ∧
          t = idleEdge (s.withEdges ps)) ∨
       (p.rst = false ∧ p.reqValid = true ∧ s.wasReset = true ∧ p.cfg = s.cfg ∧
          exec (decode p.req) (s.withEdges ps) = .next t)) := by
  unfold step nextEdge at h
  split at h
  · rename_i he
    exact .inl ⟨he, (by simpa using h.symm)⟩
  · rename_i p ps he
    refine .inr ⟨p, ps, he, ?_⟩
    unfold clockEdge at h
    split at h
    · rename_i hr
      exact .inl ⟨hr, by simpa using h.symm⟩
    · rename_i hr
      have hr' : p.rst = false := by simpa using hr
      split at h
      · rename_i hw
        have hw' : s.wasReset = true := by simpa using hw
        unfold runningEdge at h
        split at h
        · cases h
        · rename_i hc
          have hc' : p.cfg = s.cfg := by simpa using hc
          split at h
          · rename_i hq
            exact .inr (.inr (.inr ⟨hr', hq, hw', hc', h⟩))
          · rename_i hq
            exact .inr (.inr (.inl ⟨hr', by simpa using hq, hw', hc', by simpa using h.symm⟩))
      · rename_i hw
        have hw' : s.wasReset = false := by simpa using hw
        unfold unresetEdge at h
        split at h
        · cases h
        · rename_i hq
          exact .inr (.inl ⟨hr', by simpa using hq, hw', by simpa using h.symm⟩)

end Sys2Proof.Machine
end

