-- ==== Sys2Proof/Tests/Slice0.lean ====
section
/-! SUPPORT. Small tests of the model, their expected values taken from the spec, and a witness for the
hypotheses of every statement that has some. -/

namespace Sys2Proof.Tests

open Sys2Proof Sys2Proof.Machine

/-! ## Helpers -/

/-- A reset block with an active reading and flags, under a configuration. -/
def block (c : Configuration) (ar : Pattern) (tf : LevelSet) : State :=
  { State.resetWith c with ar := ar, al := lvl (run ar), tf := tf }

/-- The configuration of the vectors of spec 95. -/
def cfg0 : Configuration := ⟨0b111111#6, 0b100100#6, false⟩

/-- The same with `EQ_IS_RISE = 1`. -/
def cfg1 : Configuration := ⟨0b111111#6, 0b100100#6, true⟩

/-- The next state, where there is one. -/
def nextOf : Host.Outcome State Fault Refusal → Option State
  | .next t => some t
  | _ => none

/-- What the host observes of one request (70 R161): the response, AR, AL and TF. -/
def observed (s : State) (w : Nat) : Option (ResponseWord × Pattern × LevelIndex × LevelSet) :=
  (nextOf (step (s.withFetchWord 9 w))).map fun t => (t.resp, t.ar, t.al, t.tf)

/-- A port sample with `rst = 1`. -/
def rstSample (c : Configuration) : PortSample := { rst := true, reqValid := true, req := 0x05F#9, cfg := c }

/-- An idle port sample. -/
def idleSample (c : Configuration) : PortSample := { rst := false, reqValid := false, req := 0x05F#9, cfg := c }

/-! ## Well-formed requests: one ill-formed term for each check (30 R53, R54) -/

theorem test_wellFormed_eval : (Instr.eval false 0b000001#6).wellFormed = false := by decide
theorem test_wellFormed_reset : (Instr.reset 0b1000000#7).wellFormed = false := by decide
theorem test_wellFormed_state : (Instr.state 0b0000001#7).wellFormed = false := by decide
theorem test_wellFormed_reserved : (Instr.reserved 0b1111111#7).wellFormed = false := by decide
theorem test_wellFormed_accepts :
    (Instr.eval true 0b000001#6).wellFormed = true ∧ (Instr.eval false 0#6).wellFormed = true ∧
    (Instr.reset 0#7).wellFormed = true := by decide

/-! ## Decoding: words written bit by bit from 30 R50, R51 (CMD, FMT_OK, RD) -/

theorem test_decode_eval : decode 0b00_1_011111#9 = .eval true 0b011111#6 := by decide
theorem test_decode_eval_malformed : decode 0b00_0_100001#9 = .eval false 0b100001#6 := by decide
theorem test_decode_reset : decode 0b01_0000001#9 = .reset 0b0000001#7 := by decide
theorem test_decode_state : decode 0b10_1000000#9 = .state 0b1000000#7 := by decide
theorem test_decode_reserved : decode 0b11_1111111#9 = .reserved 0b1111111#7 := by decide
theorem test_decode_table_word : decodeTableWord 16 0x0FF = some (.reset 0b1111111#7) := by decide
theorem test_decode_too_wide : decodeNumber 512 = .error (.widerThanRequest 512) := by
  simp [decodeNumber]
/-- The rows of the opcode table do not overlap. -/
theorem test_rows_disjoint :
    opcodeTable.Pairwise fun a b => a.pattern &&& b.mask ≠ b.pattern &&& a.mask := by decide
/-- 30 R63: a raw word, a comment holding a quote, a lower-case mnemonic. -/
theorem test_line_word :
    parseLine ['.', 'w', 'o', 'r', 'd', ' ', '0', 'x', '1', 'F', 'f', ' ', ';', quoteChar]
      = some (.word 0x1FF#9) := by decide
theorem test_line_lower_case : parseLine ['s', 't', 'a', 't', 'e'] = none := by decide

/-! ## Commands: vectors of spec 95, section 3 -/

/-- E4: accept, rise to full, aggregate report. -/
theorem test_eval_rise :
    observed (block cfg0 0b011111#6 0b000001#6) 0x07F
      = some (0x20BFFFE8#32, 0b111111#6, 5#3, 0b100000#6) := by decide
/-- E15: sensor fault with two gaps. -/
theorem test_eval_sensor_fault :
    observed (block cfg0 0b111111#6 0b000000#6) 0x073
      = some (0x00BFE619#32, 0b111111#6, 5#3, 0b000000#6) := by decide
/-- K2: an invalid default is loaded as it is. -/
theorem test_reset_invalid_default :
    observed (block ⟨0b010111#6, 0b100100#6, false⟩ 0b001111#6 0b100011#6) 0x080
      = some (0x004B8004#32, 0b010111#6, 2#3, 0b000000#6) := by decide
/-- K6: RESET with a payload. -/
theorem test_reset_payload :
    observed (block cfg0 0b001111#6 0b100011#6) 0x0FF
      = some (0x00BF8004#32, 0b111111#6, 5#3, 0b000000#6) := by decide
/-- K3. -/
theorem test_state :
    observed (block cfg0 0b001111#6 0b100011#6) 0x100
      = some (0x23278005#32, 0b001111#6, 1#3, 0b100011#6) := by decide
/-- K7: STATE with a payload. -/
theorem test_state_payload :
    observed (block cfg0 0b001111#6 0b100011#6) 0x17F
      = some (0x23278005#32, 0b001111#6, 1#3, 0b100011#6) := by decide
/-- K4. -/
theorem test_reserved :
    observed (block cfg0 0b001111#6 0b100011#6) 0x180
      = some (0x23278006#32, 0b001111#6, 1#3, 0b100011#6) := by decide
/-- K5: the last reserved word. -/
theorem test_reserved_last :
    observed (block cfg0 0b001111#6 0b100011#6) 0x1FF
      = some (0x23278006#32, 0b001111#6, 1#3, 0b100011#6) := by decide

/-! ## Edges (70 R150, R156; 93 I1, I5) -/

/-- A block before its first reset, its registers holding anything. -/
def unreset : State := { block cfg0 0b101010#6 0b111111#6 with wasReset := false, respValid := true }

theorem test_rst_wins : nextOf (step { unreset with edges := [rstSample cfg1] })
    = some (State.resetWith cfg1) := by decide
theorem test_command_before_reset :
    step { unreset with edges := [requestSample cfg0 0x100#9] } = .refused .commandBeforeReset := rfl
/-- Before the first reset a RESET command is refused too (log 14), and an idle edge clears RESP_VALID
and keeps the rest (log 15): the model's choices. -/
theorem test_unreset_choices :
    step { unreset with edges := [requestSample cfg0 0x080#9] } = .refused .commandBeforeReset ∧
    step { unreset with edges := [idleSample cfg0] } = .next { unreset with respValid := false } :=
  ⟨rfl, rfl⟩
theorem test_configuration_change :
    step { State.reset with edges := [idleSample cfg1] } = .refused .configurationChanged := rfl

/-! ## Witnesses for the hypotheses of the statements -/

/-- A reset block to which the host presents a request, an idle edge and a reset edge. -/
def driven (q : Request) : State :=
  { block cfg0 0b011111#6 0b000001#6 with
    edges := [requestSample cfg0 q, idleSample cfg0, rstSample cfg1] }

/-- FormatCheckDecidesFmtOk: strings on both sides of the check. -/
theorem witness_format :
    (['0', '1', '1', '1', '1', '1'].length = 6 ∧
      ∀ c ∈ ['0', '1', '1', '1', '1', '1'], c = '0' ∨ c = '1') ∧
    ¬ (['0', '1', '0', '1', '1'].length = 6 ∧ ∀ c ∈ ['0', '1', '0', '1', '1'], c = '0' ∨ c = '1') ∧
    ¬ (['0', '1', 'a', '1', '1', '1'].length = 6 ∧
      ∀ c ∈ ['0', '1', 'a', '1', '1', '1'], c = '0' ∨ c = '1') :=
  ⟨by simp, by simp, by simp⟩
/-- AssemblyLinesAreRead: a string with a comment sign, one with a quote, and the ends of the raw words;
a well-formed string and a malformed one. -/
theorem witness_line :
    quoteChar ∉ ['0', ';', ' '] ∧ ';' ∉ ['0', quoteChar] ∧
    (hexDigit '0' = some 0 ∧ 256 * 0 + 16 * 0 + 0 < 512) ∧
    (hexDigit '1' = some 1 ∧ hexDigit 'F' = some 15 ∧ hexDigit 'f' = some 15 ∧
      256 * 1 + 16 * 15 + 15 < 512) ∧
    parseReading ['0', '1', '0', '1', '1', '1'] = some 0b010111#6 ∧ parseReading ['0'] = none := by
  decide
/-- PayloadOfControlCommandsIgnored: the first and the last of its words. -/
theorem witness_payload :
    (0x080#9 : Request).extractLsb' 7 2 ≠ 0b00#2 ∧ (0x1FF#9 : Request).extractLsb' 7 2 ≠ 0b00#2 := by
  decide
/-- DecoderFollowsOpcodeTable: different words with equal CMD, and EVAL words. -/
theorem witness_decoder :
    (0x080#9 : Request).extractLsb' 7 2 = (0x0FF#9 : Request).extractLsb' 7 2 ∧
    (0x07F#9 : Request).extractLsb' 7 2 = 0b00#2 := by decide
/-- LevelComesFromTrailingRun: runs 0 and 5 and 6. -/
theorem witness_run :
    (run 0b111110#6).val = 0 ∧ (run 0b011111#6).val = 5 ∧ (run 0b111111#6).val = 6 := by decide
/-- StepRunsThePresentedCommand, StepPerformsTheTransaction: every word can be presented. -/
theorem witness_presents (q : Request) :
    (driven q).presents q [idleSample cfg0, rstSample cfg1] := ⟨rfl, rfl⟩
/-- RunPerformsEveryRequestInOrder: a drive of two requests. -/
theorem witness_run_of_requests :
    let s : State := { State.reset with
      edges := [0x05F#9, 0x100#9].map (requestSample State.reset.cfg) }
    s.wasReset = true ∧ s.edges = [0x05F#9, 0x100#9].map (requestSample s.cfg) := ⟨rfl, rfl⟩
/-- ResetEdgeLoadsDefaults. -/
theorem witness_reset_edge :
    ({ unreset with edges := [rstSample cfg1] } : State).edges = rstSample cfg1 :: [] ∧
    (rstSample cfg1).rst = true := ⟨rfl, rfl⟩
/-- IdleEdgeKeepsRegisters. -/
theorem witness_idle_edge :
    let s : State := { block cfg0 0b000111#6 0#6 with edges := [idleSample cfg0], respValid := true }
    s.edges = idleSample cfg0 :: [] ∧ (idleSample cfg0).rst = false ∧
    (idleSample cfg0).reqValid = false ∧ s.wasReset = true ∧ (idleSample cfg0).cfg = s.cfg :=
  ⟨rfl, rfl, rfl, rfl, rfl⟩
/-- UndrivenBlockWaits: nothing driven, and an idle edge before the first reset. -/
theorem witness_waiting :
    State.reset.edges = [] ∧
    ({ unreset with edges := [idleSample cfg1] } : State).wasReset = false ∧
    (idleSample cfg1).rst = false ∧ (idleSample cfg1).reqValid = false := ⟨rfl, rfl, rfl, rfl⟩
/-- ResponseValidForOneCycle, ConfigurationHoldsBetweenResets, StepKeepsOutputsEchoing: a step that
performs a command, one that idles, one that resets. -/
theorem witness_steps :
    (∃ t, step (driven 0x07F#9) = .next t ∧ (driven 0x07F#9).wasReset = true ∧
      (driven 0x07F#9).resetNext = false ∧
      (driven 0x07F#9).commandNext = some (.eval true 0b111111#6) ∧ t.respValid = true) ∧
    (∃ t, step State.reset = .next t ∧ State.reset.requestNext = false ∧
      State.reset.resetNext = false) ∧
    (∃ t, step { unreset with edges := [rstSample cfg1] } = .next t ∧
      ({ unreset with edges := [rstSample cfg1] } : State).resetNext = true) :=
  ⟨⟨_, rfl, rfl, rfl, by decide, rfl⟩, ⟨_, rfl, rfl, rfl⟩, ⟨_, rfl, rfl⟩⟩
/-- StepStopsOnlyOnHostViolations: the right sides of its two equivalences can hold. -/
theorem witness_stops :
    (∃ p later, ({ unreset with edges := [requestSample cfg0 0x100#9] } : State).edges = p :: later ∧
      p.rst = false ∧ p.reqValid = true ∧ unreset.wasReset = false) ∧
    (∃ p later, ({ State.reset with edges := [idleSample cfg1] } : State).edges = p :: later ∧
      p.rst = false ∧ State.reset.wasReset = true ∧ p.cfg ≠ State.reset.cfg) :=
  ⟨⟨_, _, rfl, rfl, rfl, rfl⟩, ⟨_, _, rfl, rfl, rfl, by decide⟩⟩
/-- ConformingHostIsNeverStopped: before the first reset and after it. -/
theorem witness_conforms :
    (driven 0x1FF#9).conforms = true ∧
    ({ unreset with edges := [idleSample cfg1, rstSample cfg0, requestSample cfg0 0x100#9] } :
      State).conforms = true := by decide
/-- InvalidReadingIsSensorFault, and the invalid clause of EveryResponseCarriesItsDecision: the
faults at the two ends of the sensors. -/
theorem witness_invalid :
    valid 0b111110#6 = false ∧ valid 0b101111#6 = false ∧ valid 0b010111#6 = false := by decide
/-- DistantReadingIsRejected: the smallest and the largest distance. -/
theorem witness_distant :
    (valid 0b011111#6 = true ∧ hd (block cfg0 0b000111#6 0#6).ar 0b011111#6 > 1) ∧
    (valid 0b111111#6 = true ∧ hd (block cfg0 0b000000#6 0#6).ar 0b111111#6 > 1) := by decide
/-- AcceptedReadingUpdatesTheEngine: the same reading, a fall and a rise. -/
theorem witness_accepted :
    (valid 0b011111#6 = true ∧ hd (block cfg0 0b011111#6 0#6).ar 0b011111#6 ≤ 1) ∧
    (valid 0b011111#6 = true ∧ hd (block cfg0 0b111111#6 0#6).ar 0b011111#6 ≤ 1) ∧
    (valid 0b111111#6 = true ∧ hd (block cfg1 0b011111#6 0#6).ar 0b111111#6 ≤ 1) := by decide
/-- RepeatedReadingIsDebounced, AcceptedReadingMovesOneStep, RejectionsWriteNoEngineState: an accepted
EVAL on a valid reading with `EQ_IS_RISE = 0`. -/
theorem witness_accepted_step :
    (block cfg0 0b111111#6 0#6).cfg.eqIsRise = false ∧
    valid (block cfg0 0b111111#6 0#6).ar = true ∧
    ∃ t, exec (.eval true 0b011111#6) (block cfg0 0b111111#6 0#6) = .next t ∧
      kindField t.resp = 0b000#3 := ⟨rfl, by decide, _, rfl, by decide⟩
/-- RejectionsWriteNoEngineState, EveryResponseEchoesState, UndefinedResponseFieldsAreZero: a response
of every other KIND they tell apart. -/
theorem witness_other_kinds :
    (∃ t, exec (.eval true 0b010111#6) (block cfg0 0b111111#6 0#6) = .next t ∧
      kindField t.resp = 0b001#3) ∧
    (∃ t, exec (.eval true 0b000111#6) (block cfg0 0b111111#6 0#6) = .next t ∧
      kindField t.resp = 0b010#3) ∧
    (∃ t, exec (.state 0#7) (block cfg0 0b111111#6 0#6) = .next t ∧ kindField t.resp = 0b101#3) :=
  ⟨⟨_, rfl, by decide⟩, ⟨_, rfl, by decide⟩, ⟨_, rfl, by decide⟩⟩
/-- UndefinedResponseFieldsAreZero, last clause: different states with one EngineState. -/
theorem witness_same_engine :
    (block cfg0 0b000111#6 0#6).engine = ({ driven 0#9 with ar := 0b000111#6, al := 2#3, tf := 0#6 } :
      State).engine ∧ (block cfg0 0b000111#6 0#6).cfg = (driven 0#9).cfg := by decide
/-- RepeatedReadingRisesWithEqIsRise. -/
theorem witness_eq_is_rise :
    (block cfg1 0b000000#6 0#6).cfg.eqIsRise = true ∧ valid (block cfg1 0b000000#6 0#6).ar = true := by
  decide
/-- FallIntoSeenLevelIsSilent: vector E8, the lowest fall, and the highest. -/
theorem witness_fall_into_seen_level :
    (valid 0b000000#6 = true ∧ hd (block cfg0 0b000001#6 0b111111#6).ar 0b000000#6 ≤ 1 ∧
      (0b000000#6 : Pattern).toNat < (block cfg0 0b000001#6 0b111111#6).ar.toNat ∧
      (block cfg0 0b000001#6 0b111111#6).tf.getLsbD (lvl (run 0b000000#6)).toNat = true) ∧
    (valid 0b011111#6 = true ∧ hd (block cfg1 0b111111#6 0b000001#6).ar 0b011111#6 ≤ 1 ∧
      (0b011111#6 : Pattern).toNat < (block cfg1 0b111111#6 0b000001#6).ar.toNat ∧
      (block cfg1 0b111111#6 0b000001#6).tf.getLsbD (lvl (run 0b011111#6)).toNat = true) := by
  decide
/-- RisenMaskDecidesOnlyAggregate: an accepted fall has CLR = 0. -/
theorem witness_clr_zero :
    ∃ t, exec (.eval true 0b011111#6) (block cfg0 0b111111#6 0#6) = .next t ∧
      clrField t.resp = false := ⟨_, rfl, by decide⟩
/-- ResetCommandLoadsDefault, StateAnswersSnapshot, ReservedCommandIsIllegal: the default reading of
their worked words, and the ends of the reserved range. -/
theorem witness_worked_default :
    (block cfg0 0b000000#6 0b100000#6).cfg.defaultReading = 0b111111#6 ∧
    0x180 ≤ (0x180#9 : Request).toNat ∧ 0x180 ≤ (0x1FF#9 : Request).toNat := by decide
/-- EngineWritersAreAcceptAndReset: steps of its three kinds that change the EngineState. -/
theorem witness_engine_changes :
    (∃ t, step (driven 0x07F#9) = .next t ∧ t.engine ≠ (driven 0x07F#9).engine) ∧
    (∃ t, step (driven 0x080#9) = .next t ∧ t.engine ≠ (driven 0x080#9).engine) ∧
    (∃ t, step { unreset with edges := [rstSample cfg0] } = .next t ∧ t.engine ≠ unreset.engine) :=
  ⟨⟨_, rfl, by decide⟩, ⟨_, rfl, by decide⟩, ⟨_, rfl, by decide⟩⟩
/-- StepKeepsEngineInvariant, StepKeepsHistoryInvariant: a state with an accepted reading and a
command to perform, and one that reset left, both within the invariants. -/
theorem witness_invariants :
    ((driven 0x07F#9).EngineInv ∧ (driven 0x07F#9).HistoryInv true ∧
      ∃ t, step (driven 0x07F#9) = .next t) ∧
    (State.reset.EngineInv ∧ State.reset.HistoryInv false ∧ ∃ t, step State.reset = .next t) :=
  ⟨⟨fun _ => by decide, fun _ => by decide, _, rfl⟩,
    ⟨fun _ => by decide, fun _ => by decide, _, rfl⟩⟩

end Sys2Proof.Tests
end

/-! PROOFS. The statements of spec file 10 (state). What a command and a step do to the `EngineState`,
the configuration and the history bit is said once, in `exec_engine_cases` and `step_engine_cases`;
the invariants are read off those cases. -/

namespace Sys2Proof.Machine

/-! ## Commands -/

/-- The three effects a command has on the `EngineState` (10 R24): none, with a response that is not
ACCEPTED; RESET's load of the default; the writes of an accepted EVAL. -/
theorem exec_engine_cases {i : Instr} {s t : State} (h : exec i s = .next t) :
    ((∀ payload, i ≠ .reset payload) ∧
      ∃ r : Reply, r.kind ≠ .accepted ∧ t = s.putResponse (responseWord r s.ar s.al s.tf)) ∨
    (∃ payload w, i = .reset payload ∧ t = s.loadDefault.putResponse w) ∨
    (∃ rd, i = .eval true rd ∧ valid rd = true ∧
      t = (s.writeEngine rd (lvl (run rd)) (acceptFlags rd s)).putResponse
        (responseWord (acceptReply rd s) rd (lvl (run rd)) (acceptFlags rd s))) := by
  cases i with
  | eval fmtOk rd =>
    change execEval fmtOk rd s = .next t at h
    rcases execEval_cases fmtOk rd s with
      ⟨_, he⟩ | ⟨_, _, he⟩ | ⟨_, _, _, he⟩ | ⟨rfl, hv, _, he⟩ <;> rw [he] at h <;> cases h
    · exact .inl ⟨nofun, _, by simp, rfl⟩
    · exact .inl ⟨nofun, _, by simp, rfl⟩
    · exact .inl ⟨nofun, _, by simp, rfl⟩
    · exact .inr (.inr ⟨rd, rfl, hv, rfl⟩)
  | reset payload =>
    cases h
    exact .inr (.inl ⟨payload, _, rfl, rfl⟩)
  | state payload =>
    cases h
    exact .inl ⟨nofun, _, by simp, rfl⟩
  | reserved payload =>
    cases h
    exact .inl ⟨nofun, _, by simp, rfl⟩

/-- A command leaves the configuration, the reset note and the port samples alone. -/
theorem exec_frame {i : Instr} {s t : State} (h : exec i s = .next t) :
    t.cfg = s.cfg ∧ t.wasReset = s.wasReset ∧ t.edges = s.edges := by
  obtain ⟨ar, al, tf, r, he⟩ := exec_shape i s
  rw [he] at h
  cases h
  exact ⟨rfl, rfl, rfl⟩

/-- No command is refused (60 R131). -/
theorem exec_ne_refused (i : Instr) (s : State) (r : Refusal) : exec i s ≠ .refused r := by
  obtain ⟨ar, al, tf, reply, he⟩ := exec_shape i s
  rw [he]
  nofun

/-! ## What the next edge is -/

section NextEdge
variable {s : State} {p : PortSample} {ps : List PortSample}

theorem State.resetNext_of_nil (he : s.edges = []) : s.resetNext = false := by
  simp [State.resetNext, he]

theorem State.resetNext_of_cons (he : s.edges = p :: ps) : s.resetNext = p.rst := by
  simp [State.resetNext, he]

theorem State.commandNext_of_nil (he : s.edges = []) : s.commandNext = none := by
  simp [State.commandNext, he]

/-- An edge without `req_valid` performs no command (70 R156). -/
theorem State.commandNext_of_idle (he : s.edges = p :: ps) (hq : p.reqValid = false) :
    s.commandNext = none := by
  simp [State.commandNext, he, hq]

/-- An edge with `req_valid` and without `rst` performs the decoded command (70 R155). -/
theorem State.commandNext_of_request (he : s.edges = p :: ps) (hr : p.rst = false)
    (hq : p.reqValid = true) : s.commandNext = some (decode p.req) := by
  simp [State.commandNext, he, hr, hq]

end NextEdge

/-! ## The history bit -/

section History
variable {s t : State} (b : Bool)

theorem acceptedSinceReset_of_resetNext (hr : s.resetNext = true) :
    acceptedSinceReset b s t = false := by
  simp [acceptedSinceReset, hr]

theorem acceptedSinceReset_of_no_command (hr : s.resetNext = false) (hc : s.commandNext = none) :
    acceptedSinceReset b s t = b := by
  simp [acceptedSinceReset, hr, hc]

theorem acceptedSinceReset_of_reset_command {payload : BitVec 7}
    (hc : s.commandNext = some (.reset payload)) : acceptedSinceReset b s t = false := by
  simp [acceptedSinceReset, hc]

theorem acceptedSinceReset_of_accepted {fmtOk : Bool} {rd : Pattern} (hr : s.resetNext = false)
    (hc : s.commandNext = some (.eval fmtOk rd)) (hk : kindField t.resp = Kind.accepted.code) :
    acceptedSinceReset b s t = true := by
  simp [acceptedSinceReset, hr, hc, hk]

/-- A command other than RESET whose response is not ACCEPTED leaves the history as it was. -/
theorem acceptedSinceReset_of_not_accepted {i : Instr} (hr : s.resetNext = false)
    (hc : s.commandNext = some i) (hi : ∀ payload, i ≠ .reset payload)
    (hk : kindField t.resp ≠ Kind.accepted.code) : acceptedSinceReset b s t = b := by
  cases i with
  | eval fmtOk rd => simp [acceptedSinceReset, hr, hc, hk]
  | reset payload => exact absurd rfl (hi payload)
  | state payload => simp [acceptedSinceReset, hr, hc]
  | reserved payload => simp [acceptedSinceReset, hr, hc]

end History

/-! ## The three effects of a step on the `EngineState` -/

/-- The step from `s` to `t` writes neither the `EngineState` nor, once reset, the configuration, and
the history stands. -/
structure State.KeepsEngine (s t : State) : Prop where
  ar : t.ar = s.ar
  al : t.al = s.al
  tf : t.tf = s.tf
  wasReset : t.wasReset = s.wasReset
  cfg : s.wasReset = true → t.cfg = s.cfg
  history : ∀ b, acceptedSinceReset b s t = b

/-- The step from `s` to `t` loads the reset values, at a reset edge or by RESET (10 R31), and the
history is forgotten. -/
structure State.LoadsReset (s t : State) : Prop where
  cause : s.resetNext = true ∨ ∃ payload, s.commandNext = some (.reset payload)
  ar : t.ar = t.cfg.defaultReading
  al : t.al = lvl (run t.ar)
  tf : t.tf = 0b000000#6
  history : ∀ b, acceptedSinceReset b s t = false

/-- The step from `s` to `t` performs an EVAL that is accepted (41 R104 to R106), and the history notes
it. -/
structure State.AcceptsReading (s t : State) : Prop where
  command : s.commandNext = some (.eval true t.ar)
  valid : valid t.ar = true
  al : t.al = lvl (run t.ar)
  flagged : inSet t.tf t.al = true
  kind : kindField t.resp = Kind.accepted.code
  history : ∀ b, acceptedSinceReset b s t = true

/-- A command performed at an edge has one of the three effects. -/
theorem command_engine_cases {s t : State} {ps : List PortSample} {i : Instr}
    (hr : s.resetNext = false) (hc : s.commandNext = some i)
    (h : exec i (s.withEdges ps) = .next t) :
    s.KeepsEngine t ∨ s.LoadsReset t ∨ s.AcceptsReading t := by
  rcases exec_engine_cases h with ⟨hi, r, hk, rfl⟩ | ⟨payload, w, rfl, rfl⟩ | ⟨rd, rfl, hv, rfl⟩
  · refine .inl ⟨rfl, rfl, rfl, rfl, fun _ => rfl, fun b =>
      acceptedSinceReset_of_not_accepted b hr hc hi ?_⟩
    simpa using fun hcode => hk (Kind.code_inj _ _ hcode)
  · exact .inr (.inl ⟨.inr ⟨payload, hc⟩, rfl, rfl, rfl, fun b =>
      acceptedSinceReset_of_reset_command b hc⟩)
  · exact .inr (.inr ⟨hc, hv, rfl, inSet_markSeen_self _ _, by simp, fun b =>
      acceptedSinceReset_of_accepted b hr hc (by simp)⟩)

/-- Every step that answers keeps the `EngineState`, loads the reset values or accepts a reading
(10 R21 to R24). -/
theorem step_engine_cases {s t : State} (h : step s = .next t) :
    s.KeepsEngine t ∨ s.LoadsReset t ∨ s.AcceptsReading t := by
  rcases step_next_cases h with ⟨he, rfl⟩ | ⟨p, ps, he, ⟨hr, rfl⟩ | ⟨hr, hq, hw, rfl⟩ |
    ⟨hr, hq, hw, hc, rfl⟩ | ⟨hr, hq, hw, hc, hx⟩⟩
  · exact .inl ⟨rfl, rfl, rfl, rfl, fun _ => rfl, fun b =>
      acceptedSinceReset_of_no_command b (State.resetNext_of_nil he) (State.commandNext_of_nil he)⟩
  · have hr' : s.resetNext = true := (State.resetNext_of_cons he).trans hr
    exact .inr (.inl ⟨.inl hr', rfl, rfl, rfl, fun b => acceptedSinceReset_of_resetNext b hr'⟩)
  · exact .inl ⟨rfl, rfl, rfl, rfl, fun hw' => absurd hw' (by simp [hw]), fun b =>
      acceptedSinceReset_of_no_command b ((State.resetNext_of_cons he).trans hr)
        (State.commandNext_of_idle he hq)⟩
  · exact .inl ⟨rfl, rfl, rfl, rfl, fun _ => rfl, fun b =>
      acceptedSinceReset_of_no_command b ((State.resetNext_of_cons he).trans hr)
        (State.commandNext_of_idle he hq)⟩
  · exact command_engine_cases ((State.resetNext_of_cons he).trans hr)
      (State.commandNext_of_request he hr hq) hx

/-! ## The invariants of 10 R33 -/

/-- The level of the active reading is at most 5 (10 R22). -/
theorem State.al_toNat_le_five {s : State} (hal : s.al = lvl (run s.ar)) : s.al.toNat ≤ 5 :=
  hal ▸ lvl_toNat_le_five _

/-- Settles O42, by the three effects of a step on the `EngineState`. -/
theorem stepKeepsEngineInvariant : Obligations.StepKeepsEngineInvariant := by
  intro s t hinv h hw
  rcases step_engine_cases h with hk | hl | ha
  · have hs : s.wasReset = true := hk.wasReset ▸ hw
    rw [hk.ar, hk.al, hk.tf, hk.cfg hs]
    exact hinv hs
  · exact ⟨hl.al, State.al_toNat_le_five hl.al, .inr ⟨hl.ar, hl.tf⟩⟩
  · exact ⟨ha.al, State.al_toNat_le_five ha.al, .inl ⟨ha.valid, ha.flagged⟩⟩

/-- Settles O43, by the three effects of a step, each with what it does to the history bit. -/
theorem stepKeepsHistoryInvariant : Obligations.StepKeepsHistoryInvariant := by
  intro accepted s t hinv h hw
  rcases step_engine_cases h with hk | hl | ha
  · have hs : s.wasReset = true := hk.wasReset ▸ hw
    rw [hk.history, hk.ar, hk.al, hk.tf, hk.cfg hs]
    exact hinv hs
  · rw [hl.history]
    exact ⟨nofun, fun _ => ⟨hl.ar, hl.tf⟩⟩
  · rw [ha.history]
    exact ⟨fun _ => ⟨ha.valid, ha.flagged⟩, nofun⟩

/-! ## Refusals -/

theorem runningEdge_eq_refused_iff (p : PortSample) (s : State) (r : Refusal) :
    runningEdge p s = .refused r ↔ p.cfg ≠ s.cfg ∧ r = .configurationChanged := by
  unfold runningEdge
  by_cases hc : p.cfg = s.cfg
  · cases hq : p.reqValid <;> simp [hc, exec_ne_refused]
  · simp [hc, eq_comm]

theorem unresetEdge_eq_refused_iff (p : PortSample) (s : State) (r : Refusal) :
    unresetEdge p s = .refused r ↔ p.reqValid = true ∧ r = .commandBeforeReset := by
  cases hq : p.reqValid <;> simp [unresetEdge, hq, eq_comm]

/-- The two refusals of a clock edge (10 R30, R32). -/
theorem clockEdge_eq_refused_iff (p : PortSample) (s : State) (r : Refusal) :
    clockEdge p s = .refused r ↔ p.rst = false ∧
      ((p.reqValid = true ∧ s.wasReset = false ∧ r = .commandBeforeReset) ∨
       (s.wasReset = true ∧ p.cfg ≠ s.cfg ∧ r = .configurationChanged)) := by
  unfold clockEdge
  cases hr : p.rst
  · cases hw : s.wasReset
    · simp [unresetEdge_eq_refused_iff]
    · simp [runningEdge_eq_refused_iff]
  · simp

/-- A step is refused exactly when the next driven sample is refused. -/
theorem step_eq_refused_iff (s : State) (r : Refusal) :
    step s = .refused r ↔ ∃ p later, s.edges = p :: later ∧ p.rst = false ∧
      ((p.reqValid = true ∧ s.wasReset = false ∧ r = .commandBeforeReset) ∨
       (s.wasReset = true ∧ p.cfg ≠ s.cfg ∧ r = .configurationChanged)) := by
  unfold step nextEdge
  cases he : s.edges with
  | nil => simp
  | cons p later => simp [clockEdge_eq_refused_iff]

/-- Settles O17: the type of faults is empty, and the refusals are those of `step_eq_refused_iff`. -/
theorem stepStopsOnlyOnHostViolations : Obligations.StepStopsOnlyOnHostViolations := by
  intro s
  refine ⟨nofun, ?_, ?_, fun r h => ?_⟩
  · simp [step_eq_refused_iff]
  · simp [step_eq_refused_iff]
  · obtain ⟨_, _, _, _, ⟨_, _, hr⟩ | ⟨_, _, hr⟩⟩ := (step_eq_refused_iff s r).1 h
    · exact .inl hr
    · exact .inr hr

/-! ## Writers, configuration and reset -/

/-- Settles O39, by the three effects of a step: the first writes nothing. -/
theorem engineWritersAreAcceptAndReset : Obligations.EngineWritersAreAcceptAndReset := by
  intro s t h hne
  rcases step_engine_cases h with hk | hl | ha
  · exact absurd (by simp [State.engine, hk.ar, hk.al, hk.tf]) hne
  · exact ⟨State.al_toNat_le_five hl.al, hl.al, hl.cause.imp_right .inl⟩
  · exact ⟨State.al_toNat_le_five ha.al, ha.al, .inr (.inr ⟨t.ar, ha.command, ha.kind, rfl⟩)⟩

/-- Settles O40, by the five ways a step answers; a command touches none of the three fields. -/
theorem configurationHoldsBetweenResets : Obligations.ConfigurationHoldsBetweenResets := by
  intro s t h
  rcases step_next_cases h with ⟨he, rfl⟩ | ⟨p, ps, he, ⟨hr, rfl⟩ | ⟨hr, hq, hw, rfl⟩ |
    ⟨hr, hq, hw, hc, rfl⟩ | ⟨hr, hq, hw, hc, hx⟩⟩
  · simp [he]
  · simp [he, State.resetNext_of_cons he, hr]
  · simp [he, hr, hw]
  · simp [he, hr, hw]
  · obtain ⟨hcfg, hwas, hedges⟩ := exec_frame hx
    simp [he, hr, hw, hcfg, hwas, hedges]

/-- Settles O41: the reset values meet each invariant, and no sample is driven yet. -/
theorem invariantsHoldAtReset : Obligations.InvariantsHoldAtReset := by
  refine ⟨fun c => ⟨fun _ => ?engine, fun _ => ?history, fun _ => ?echo, ?conforms⟩, rfl⟩
  case engine => exact ⟨rfl, lvl_toNat_le_five _, .inr ⟨rfl, rfl⟩⟩
  case history => exact ⟨nofun, fun _ => ⟨rfl, rfl⟩⟩
  case echo => nofun
  case conforms => simp [State.conforms, hostConforms]

end Sys2Proof.Machine

/-! PROOFS. The statements of spec file 30 (encoding). A request word is its command code followed by
its payload, and the decoder and the encoder are said once in those terms; a response word is read
through the fields of its reply. -/

namespace Sys2Proof

/-! ## A request word as its command code and its payload (30 R50) -/

@[simp] theorem commandField_append (c : BitVec 2) (p : BitVec 7) : commandField (c ++ p) = c :=
  BitVec.extractLsb'_append_eq_left

@[simp] theorem payloadField_append (c : BitVec 2) (p : BitVec 7) : payloadField (c ++ p) = p :=
  BitVec.extractLsb'_append_eq_right

theorem commandField_append_payloadField (q : Request) : commandField q ++ payloadField q = q := by
  have h : commandField q ++ payloadField q = q.extractLsb' 0 (2 + 7) :=
    BitVec.extractLsb'_append_extractLsb'_eq_extractLsb' rfl
  rw [h, BitVec.extractLsb'_eq_self]

/-- The payload of an EVAL word is its format bit followed by its reading. -/
theorem ofBool_append_readingField (q : Request) :
    BitVec.ofBool (formatField q) ++ readingField q = payloadField q := by
  have hf : BitVec.ofBool (formatField q) = q.extractLsb' 6 1 := by
    ext i hi
    obtain rfl : i = 0 := by omega
    simp [formatField]
  rw [hf]
  exact BitVec.extractLsb'_append_extractLsb'_eq_extractLsb' rfl

theorem formatField_append (c : BitVec 2) (f : Bool) (rd : Pattern) :
    formatField (c ++ (BitVec.ofBool f ++ rd)) = f := by
  rw [formatField, BitVec.getLsbD_append, if_pos (by decide), BitVec.getLsbD_append]
  simp

theorem readingField_append (c : BitVec 2) (f : Bool) (rd : Pattern) :
    readingField (c ++ (BitVec.ofBool f ++ rd)) = rd := by
  rw [readingField, BitVec.extractLsb'_append_eq_of_add_le (by decide),
    BitVec.extractLsb'_append_eq_right]

/-- Masking all but `CMD` keeps the command code and clears the payload. -/
theorem and_cmdMask (q : Request) : q &&& 0x180#9 = commandField q ++ 0#7 := by
  have hmask : 0x180#9 = (0b11#2 ++ 0#7 : Request) := rfl
  calc q &&& 0x180#9
      = (commandField q ++ payloadField q) &&& (0b11#2 ++ 0#7) := by
        rw [commandField_append_payloadField, hmask]
    _ = (commandField q &&& 0b11#2) ++ (payloadField q &&& 0#7) := BitVec.and_append
    _ = commandField q ++ 0#7 := by
        rw [BitVec.and_zero, show 0b11#2 = BitVec.allOnes 2 from rfl, BitVec.and_allOnes]

/-! ## The decoder and the encoder (30 R51, R60) -/

section DecoderRows
variable {q : Request}

theorem decode_of_eval (h : commandField q = 0b00#2) :
    decode q = .eval (formatField q) (readingField q) := by simp [decode, h]

theorem decode_of_reset (h : commandField q = 0b01#2) : decode q = .reset (payloadField q) := by
  simp [decode, h]

theorem decode_of_state (h : commandField q = 0b10#2) : decode q = .state (payloadField q) := by
  simp [decode, h]

theorem decode_of_reserved (h : commandField q = 0b11#2) :
    decode q = .reserved (payloadField q) := by simp [decode, h]

end DecoderRows

/-- Every request word is in one of the four rows. -/
theorem decode_cases (q : Request) :
    (commandField q = 0b00#2 ∧ decode q = .eval (formatField q) (readingField q)) ∨
    (commandField q = 0b01#2 ∧ decode q = .reset (payloadField q)) ∨
    (commandField q = 0b10#2 ∧ decode q = .state (payloadField q)) ∨
    (commandField q = 0b11#2 ∧ decode q = .reserved (payloadField q)) := by
  have hcode : ∀ c : BitVec 2, c = 0b00#2 ∨ c = 0b01#2 ∨ c = 0b10#2 ∨ c = 0b11#2 := by decide
  rcases hcode (commandField q) with h | h | h | h
  · exact .inl ⟨h, decode_of_eval h⟩
  · exact .inr (.inl ⟨h, decode_of_reset h⟩)
  · exact .inr (.inr (.inl ⟨h, decode_of_state h⟩))
  · exact .inr (.inr (.inr ⟨h, decode_of_reserved h⟩))

/-- The word of an EVAL with its payload in brackets. -/
theorem encode_eval (f : Bool) (rd : Pattern) :
    encode (.eval f rd) = 0b00#2 ++ (BitVec.ofBool f ++ rd) :=
  BitVec.append_assoc

theorem decode_encode (i : Instr) : decode (encode i) = i := by
  cases i with
  | eval f rd =>
    rw [encode_eval, decode_of_eval (commandField_append _ _), formatField_append,
      readingField_append]
  | reset payload => rw [encode, decode_of_reset (commandField_append _ _), payloadField_append]
  | state payload => rw [encode, decode_of_state (commandField_append _ _), payloadField_append]
  | reserved payload =>
    rw [encode, decode_of_reserved (commandField_append _ _), payloadField_append]

theorem encode_decode (q : Request) : encode (decode q) = q := by
  rcases decode_cases q with ⟨hc, hd⟩ | ⟨hc, hd⟩ | ⟨hc, hd⟩ | ⟨hc, hd⟩
  · rw [hd, encode_eval, ofBool_append_readingField, ← hc, commandField_append_payloadField]
  · rw [hd, encode, ← hc, commandField_append_payloadField]
  · rw [hd, encode, ← hc, commandField_append_payloadField]
  · rw [hd, encode, ← hc, commandField_append_payloadField]

/-- Settles O1: the two round trips, each by the rows of the decoder. -/
theorem decodeInvertsEncode : Obligations.DecodeInvertsEncode :=
  ⟨decode_encode, encode_decode⟩

/-! ## The opcode table (30 R60) -/

/-- The mnemonic that a command code selects. -/
def mnemonicOfCommand (c : BitVec 2) : String :=
  if c = 0b00#2 then "EVAL" else if c = 0b01#2 then "RESET"
  else if c = 0b10#2 then "STATE" else "RESERVED"

theorem decode_mnemonic (q : Request) :
    (decode q).mnemonic = mnemonicOfCommand (commandField q) := by
  rcases decode_cases q with ⟨hc, hd⟩ | ⟨hc, hd⟩ | ⟨hc, hd⟩ | ⟨hc, hd⟩ <;> rw [hc, hd] <;> rfl

/-- Every row of the table looks at `CMD` alone. -/
theorem opcodeTable_mask : ∀ row ∈ opcodeTable, row.mask = 0x180#9 := by decide

/-- A command code agrees with the pattern of exactly the row that has its mnemonic. -/
theorem opcodeTable_pattern_iff : ∀ (c : BitVec 2), ∀ row ∈ opcodeTable,
    (c ++ 0#7 = row.pattern ↔ mnemonicOfCommand c = row.mnemonic) := by decide

theorem and_mask_eq_pattern_iff (q : Request) {row : OpcodeRow} (hrow : row ∈ opcodeTable) :
    q &&& row.mask = row.pattern ↔ (decode q).mnemonic = row.mnemonic := by
  rw [opcodeTable_mask row hrow, and_cmdMask, decode_mnemonic, opcodeTable_pattern_iff _ row hrow]

/-- A command code agrees with one row. -/
theorem opcodeTable_filter_length : ∀ c : BitVec 2,
    (opcodeTable.filter fun row => mnemonicOfCommand c = row.mnemonic).length = 1 := by decide

/-- Settles O2: a row is matched iff its mnemonic is the one that `CMD` selects. -/
theorem decoderFollowsOpcodeTable : Obligations.DecoderFollowsOpcodeTable := by
  refine ⟨fun q row hrow => and_mask_eq_pattern_iff q hrow, fun q => ?one, fun q q' h => ?cmd,
    fun q h => ?eval⟩
  case one =>
    rw [← opcodeTable_filter_length (commandField q)]
    congr 1
    refine List.filter_congr fun row hrow => ?_
    rw [← decode_mnemonic]
    exact decide_eq_decide.2 (and_mask_eq_pattern_iff q hrow)
  case cmd =>
    have hc : commandField q = commandField q' := h
    rw [decode_mnemonic, decode_mnemonic, hc]
  case eval => exact decode_of_eval h

/-- Settles O3, by evaluating the assembler and the decoder on the words of the table. -/
theorem workedRequestWords : Obligations.WorkedRequestWords := by
  unfold Obligations.WorkedRequestWords
  decide

end Sys2Proof

namespace Sys2Proof.Machine

/-! ## The outcomes of EVAL (41 R100), one equation per condition of 60 R132 -/

section EvalOutcomes
variable {rd : Pattern} {s : State}

theorem execEval_malformed (rd : Pattern) (s : State) :
    execEval false rd s = respond { kind := .rejFmt } s := rfl

theorem execEval_invalid (hv : valid rd = false) :
    execEval true rd s =
      respond { kind := .sensorFault, idx := (loc rd).sensor, raw := rd } s := by
  simp [execEval, hv]

theorem execEval_distant (hv : valid rd = true) (hd1 : hd s.ar rd > 1) :
    execEval true rd s = respond { kind := .rejMsj, raw := rd } s := by
  simp [execEval, hv, hd1]

theorem execEval_accepted (hv : valid rd = true) (hd1 : hd s.ar rd ≤ 1) :
    execEval true rd s = acceptReading rd s := by
  simp [execEval, hv, Nat.not_lt.2 hd1]

end EvalOutcomes

/-! ## Ignored payload bits (30 R54) -/

/-- What a request with `CMD` other than 00 does is fixed by `CMD`. -/
theorem exec_decode_of_commandField_eq {q q' : Request} (h : commandField q = commandField q')
    (hq : commandField q ≠ 0b00#2) (s : State) : exec (decode q) s = exec (decode q') s := by
  rcases decode_cases q with ⟨hc, -⟩ | ⟨hc, hd⟩ | ⟨hc, hd⟩ | ⟨hc, hd⟩
  · exact absurd hc hq
  · rw [hd, decode_of_reset (h ▸ hc)]; rfl
  · rw [hd, decode_of_state (h ▸ hc)]; rfl
  · rw [hd, decode_of_reserved (h ▸ hc)]; rfl

/-- Settles O6: masking the payload keeps `CMD`. -/
theorem payloadOfControlCommandsIgnored : Obligations.PayloadOfControlCommandsIgnored := by
  intro q s hq
  refine exec_decode_of_commandField_eq ?_ hq s
  rw [and_cmdMask, commandField_append]

/-! ## The response word (30 R55) -/

/-- Settles O35: a concatenation is its high part, shifted, or its low part, and shifts add up. -/
theorem responseIsSumOfShiftedFields : Obligations.ResponseIsSumOfShiftedFields := by
  intro r ar al tf
  have hword : responseWord r ar al tf = (responseWord r ar al tf).setWidth 32 :=
    (BitVec.setWidth_eq _).symm
  rw [hword, responseWord]
  simp only [BitVec.setWidth_append_eq_shiftLeft_setWidth_or, BitVec.shiftLeft_or_distrib,
    ← BitVec.shiftLeft_add, BitVec.setWidth_zero, BitVec.zero_shiftLeft, BitVec.zero_or]

/-- 30 R58: every field that the table of R55 does not define for the reply's kind is zero. -/
structure Reply.Defined (r : Reply) : Prop where
  decisions : r.kind ≠ .accepted → r.notify = false ∧ r.agg = false ∧ r.clr = false
  idx : r.kind ≠ .accepted → r.kind ≠ .sensorFault → r.idx = 0#3
  raw : r.kind ≠ .accepted → r.kind ≠ .sensorFault → r.kind ≠ .rejMsj → r.raw = 0#6

/-- Every command answers with a defined reply about the registers it leaves, and a command whose
kind is neither ACCEPTED nor RESET_DONE leaves them as they were (30 R58, R59). -/
theorem exec_answers_defined_reply (i : Instr) (s : State) : ∃ t r, exec i s = .next t ∧
    t.resp = responseWord r t.ar t.al t.tf ∧ r.Defined ∧
    (r.kind ≠ .accepted → r.kind ≠ .resetDone → t.engine = s.engine) := by
  cases i with
  | eval fmtOk rd =>
    rcases execEval_cases fmtOk rd s with ⟨_, h⟩ | ⟨_, _, h⟩ | ⟨_, _, _, h⟩ | ⟨_, _, _, h⟩
    · exact ⟨_, _, h, rfl, ⟨by simp, by simp, by simp⟩, fun _ _ => rfl⟩
    · exact ⟨_, _, h, rfl, ⟨by simp, by simp, by simp⟩, fun _ _ => rfl⟩
    · exact ⟨_, _, h, rfl, ⟨by simp, by simp, by simp⟩, fun _ _ => rfl⟩
    · exact ⟨_, _, h, rfl, ⟨by simp, by simp, by simp⟩, by simp⟩
  | reset payload => exact ⟨_, _, rfl, rfl, ⟨by simp, by simp, by simp⟩, by simp⟩
  | state payload => exact ⟨_, _, rfl, rfl, ⟨by simp, by simp, by simp⟩, fun _ _ => rfl⟩
  | reserved payload => exact ⟨_, _, rfl, rfl, ⟨by simp, by simp, by simp⟩, fun _ _ => rfl⟩

/-- The response register, `RESP_VALID`, the history note and the port samples are no inputs of a
command (70 R162). -/
theorem exec_ignores_other_fields (i : Instr) (s : State) (w : ResponseWord) (v b : Bool)
    (ps : List PortSample) : ∃ t t', exec i s = .next t ∧
      exec i { s with resp := w, respValid := v, wasReset := b, edges := ps } = .next t' ∧
      t.resp = t'.resp ∧ t.engine = t'.engine := by
  cases i with
  | eval fmtOk rd =>
    rcases execEval_cases fmtOk rd s with
      ⟨rfl, h⟩ | ⟨rfl, hv, h⟩ | ⟨rfl, hv, hd1, h⟩ | ⟨rfl, hv, hd1, h⟩
    · exact ⟨_, _, h, execEval_malformed _ _, rfl, rfl⟩
    · exact ⟨_, _, h, execEval_invalid hv, rfl, rfl⟩
    · exact ⟨_, _, h, execEval_distant hv hd1, rfl, rfl⟩
    · exact ⟨_, _, h, execEval_accepted hv hd1, rfl, rfl⟩
  | reset payload => exact ⟨_, _, rfl, rfl, rfl, rfl⟩
  | state payload => exact ⟨_, _, rfl, rfl, rfl, rfl⟩
  | reserved payload => exact ⟨_, _, rfl, rfl, rfl, rfl⟩

/-- States that agree on the `EngineState` and the configuration differ in the other fields only. -/
theorem State.eq_of_engine_eq {s s' : State} (he : s.engine = s'.engine) (hc : s.cfg = s'.cfg) :
    s' = { s with
      resp := s'.resp, respValid := s'.respValid, wasReset := s'.wasReset, edges := s'.edges } := by
  obtain ⟨har, hal, htf⟩ := EngineState.mk.inj he
  rw [har, hal, htf, hc]

theorem Kind.ne_of_code_ne {k l : Kind} (h : k.code ≠ l.code) : k ≠ l := fun hkl => h (hkl ▸ rfl)

/-- Settles O36: the reply is defined for its kind, and the other fields are no inputs. -/
theorem undefinedResponseFieldsAreZero : Obligations.UndefinedResponseFieldsAreZero := by
  refine ⟨fun i s => ?fields, fun i s s' he hc => ?inputs⟩
  case fields =>
    obtain ⟨t, r, h, hresp, hdef, -⟩ := exec_answers_defined_reply i s
    refine ⟨t, h, ?_⟩
    rw [hresp]
    simp only [reservedField_responseWord, kindField_responseWord, notifyField_responseWord,
      aggField_responseWord, clrField_responseWord, idxField_responseWord, rawField_responseWord,
      true_and]
    exact ⟨r.kind.code_ne_seven,
      fun ha => hdef.decisions (Kind.ne_of_code_ne ha),
      fun ha hf => hdef.idx (Kind.ne_of_code_ne ha) (Kind.ne_of_code_ne hf),
      fun ha hf hm => hdef.raw (Kind.ne_of_code_ne ha) (Kind.ne_of_code_ne hf)
        (Kind.ne_of_code_ne hm)⟩
  case inputs =>
    rw [State.eq_of_engine_eq he hc]
    exact exec_ignores_other_fields i s _ _ _ _

/-- Settles O37: the response is about the registers that the command leaves. -/
theorem everyResponseEchoesState : Obligations.EveryResponseEchoesState := by
  intro i s
  obtain ⟨t, r, h, hresp, -, hkeeps⟩ := exec_answers_defined_reply i s
  refine ⟨t, h, ?_⟩
  rw [hresp]
  simp only [sReadingField_responseWord, sLevelField_responseWord, sFlagsField_responseWord,
    kindField_responseWord, true_and]
  intro ha hr
  obtain ⟨har, hal, htf⟩ :=
    EngineState.mk.inj (hkeeps (Kind.ne_of_code_ne ha) (Kind.ne_of_code_ne hr))
  exact ⟨har, hal, htf⟩

/-! ## What the host reads (30 R57) -/

/-- The Decision that a reply stands for, with the registers after the command. -/
def Reply.decision (r : Reply) (ar : Pattern) (al : LevelIndex) (tf : LevelSet) : Decision :=
  match r.kind with
  | .accepted => .accepted r.idx r.notify r.agg r.clr
  | .sensorFault => .sensorFault r.idx r.raw
  | .rejMsj => .multiStepJump r.raw
  | .rejFmt => .formatOrUnresolvable
  | .resetDone => .resetDone
  | .snapshot => .currentState ar al tf
  | .illegal => .illegal

theorem readDecision_responseWord (r : Reply) (ar : Pattern) (al : LevelIndex) (tf : LevelSet) :
    readDecision (responseWord r ar al tf) = some (r.decision ar al tf) := by
  rw [readDecision, Reply.decision]
  cases hk : r.kind <;> simp [hk, Kind.code]

/-- The host reads from the response of `respond` the reply's Decision. -/
theorem respond_carries_decision (r : Reply) (s : State) :
    ∃ t, respond r s = .next t ∧ readDecision t.resp = some (r.decision s.ar s.al s.tf) :=
  ⟨_, rfl, readDecision_responseWord r s.ar s.al s.tf⟩

/-- Settles O38: the outcome fixes the reply, and the reply its Decision. -/
theorem everyResponseCarriesItsDecision : Obligations.EveryResponseCarriesItsDecision := by
  intro s
  refine ⟨fun rd => ?malformed, fun rd hv => ?invalid, fun rd hv hd1 => ?distant,
    fun rd hv hd1 => ?accepted, fun p => ?reset, fun p => ?state, fun p => ?reserved⟩
  case malformed => exact respond_carries_decision _ s
  case invalid =>
    rw [exec, execEval_invalid hv]
    exact respond_carries_decision _ s
  case distant =>
    rw [exec, execEval_distant hv hd1]
    exact respond_carries_decision _ s
  case accepted =>
    exact ⟨_, execEval_accepted hv hd1, rfl, readDecision_responseWord _ _ _ _⟩
  case reset => exact respond_carries_decision _ s.loadDefault
  case state => exact respond_carries_decision _ s
  case reserved => exact respond_carries_decision _ s

/-! ## The outputs after a step (70 R157) -/

/-- A command leaves a response that echoes the registers. -/
theorem exec_echoInv {i : Instr} {s t : State} (h : exec i s = .next t) : t.EchoInv := by
  obtain ⟨ar, al, tf, r, he⟩ := exec_shape i s
  rw [he] at h
  cases h
  intro _ _
  simp [Kind.code_ne_seven]

/-- Without a valid response there is nothing to echo. -/
theorem State.echoInv_of_not_respValid {s : State} (h : s.respValid = false) : s.EchoInv :=
  fun _ hv => absurd hv (by simp [h])

/-- Settles O44: every edge but one that performs a command leaves `RESP_VALID = 0`. -/
theorem stepKeepsOutputsEchoing : Obligations.StepKeepsOutputsEchoing := by
  intro s t h
  rcases step_next_cases h with ⟨_, rfl⟩ | ⟨p, ps, _, ⟨_, rfl⟩ | ⟨_, _, _, rfl⟩ |
    ⟨_, _, _, _, rfl⟩ | ⟨_, _, _, _, hx⟩⟩
  · exact State.echoInv_of_not_respValid rfl
  · exact State.echoInv_of_not_respValid rfl
  · exact State.echoInv_of_not_respValid rfl
  · exact State.echoInv_of_not_respValid rfl
  · exact exec_echoInv hx

end Sys2Proof.Machine

namespace Sys2Proof

open Machine

/-! ## The format check (30 R52, R53) -/

/-- The character of a binary digit, the inverse of `digitOfChar`. -/
def charOfDigit (d : Bool) : Char := if d then '1' else '0'

theorem digitOfChar_eq_some_iff (c : Char) (d : Bool) :
    digitOfChar c = some d ↔ c = charOfDigit d := by
  unfold digitOfChar charOfDigit
  by_cases h0 : c = '0'
  · cases d <;> simp [h0]
  · by_cases h1 : c = '1'
    · cases d <;> simp [h1]
    · cases d <;> simp [h0, h1]

theorem digitsOfChars_eq_some_iff (cs : List Char) (ds : List Bool) :
    digitsOfChars cs = some ds ↔ cs = ds.map charOfDigit := by
  induction cs generalizing ds with
  | nil => simp [digitsOfChars, eq_comm]
  | cons c cs ih =>
    have hcons : digitsOfChars (c :: cs) = some ds ↔
        ∃ d ds', digitOfChar c = some d ∧ digitsOfChars cs = some ds' ∧ d :: ds' = ds := by
      rw [digitsOfChars]
      cases digitOfChar c <;> cases digitsOfChars cs <;> simp
    simp only [hcons, digitOfChar_eq_some_iff, ih]
    cases ds <;> simp [eq_comm]

/-- The pattern of six digits, digit 0 first. -/
def packDigits (d0 d1 d2 d3 d4 d5 : Bool) : Pattern :=
  BitVec.ofBool d0 ++ BitVec.ofBool d1 ++ BitVec.ofBool d2
    ++ BitVec.ofBool d3 ++ BitVec.ofBool d4 ++ BitVec.ofBool d5

theorem digits_packDigits : ∀ d0 d1 d2 d3 d4 d5 : Bool,
    digits (packDigits d0 d1 d2 d3 d4 d5) = [d0, d1, d2, d3, d4, d5] := by decide

set_option maxRecDepth 4000 in
theorem packDigits_digit : ∀ p : Pattern, packDigits (digit p 0) (digit p 1) (digit p 2)
    (digit p 3) (digit p 4) (digit p 5) = p := by decide

/-- The string that is read as a pattern. -/
def readingChars (rd : Pattern) : List Char := (digits rd).map charOfDigit

theorem parseReading_eq_some_iff (chars : List Char) (rd : Pattern) :
    parseReading chars = some rd ↔ chars = readingChars rd := by
  rw [readingChars, ← digitsOfChars_eq_some_iff]
  constructor
  · intro h
    unfold parseReading at h
    split at h
    case h_1 d0 d1 d2 d3 d4 d5 hd =>
      rw [hd, ← Option.some.inj h]
      exact congrArg some (digits_packDigits d0 d1 d2 d3 d4 d5).symm
    case h_2 => cases h
  · intro h
    rw [parseReading, h]
    exact congrArg some (packDigits_digit rd)

/-- The format check of 30 R53: exactly 6 characters, each `0` or `1`. -/
def IsReadingString (chars : List Char) : Prop :=
  chars.length = 6 ∧ ∀ c ∈ chars, c = '0' ∨ c = '1'

theorem isReadingString_readingChars (rd : Pattern) : IsReadingString (readingChars rd) := by
  refine ⟨rfl, fun c hc => ?_⟩
  obtain ⟨d, -, rfl⟩ := List.mem_map.1 hc
  cases d
  · exact .inl rfl
  · exact .inr rfl

/-- A string that passes the format check is read as a pattern. -/
theorem IsReadingString.exists_parseReading {chars : List Char} (h : IsReadingString chars) :
    ∃ rd, parseReading chars = some rd := by
  obtain ⟨hlen, hbin⟩ := h
  have hdigits : chars ∈ Set.range (List.map charOfDigit) := by
    rw [Set.range_list_map]
    intro c hc
    rcases hbin c hc with rfl | rfl
    · exact ⟨false, rfl⟩
    · exact ⟨true, rfl⟩
  obtain ⟨ds, rfl⟩ := hdigits
  rw [List.length_map] at hlen
  match ds, hlen with
  | [d0, d1, d2, d3, d4, d5], _ =>
    exact ⟨packDigits d0 d1 d2 d3 d4 d5, (parseReading_eq_some_iff _ _).2
      (congrArg (List.map charOfDigit) (digits_packDigits d0 d1 d2 d3 d4 d5)).symm⟩

/-- A string that fails the format check is not read as a pattern. -/
theorem parseReading_eq_none {chars : List Char} (h : ¬ IsReadingString chars) :
    parseReading chars = none := by
  refine Option.eq_none_iff_forall_ne_some.2 fun rd hrd => h ?_
  rw [(parseReading_eq_some_iff _ _).1 hrd]
  exact isReadingString_readingChars rd

/-- 30 R52: character i of the string is bit `5 - i` of the reading. -/
theorem getLsbD_eq_true_iff_readingChars (rd : Pattern) {i : Nat} (hi : i < 6) :
    rd.getLsbD (5 - i) = true ↔ (readingChars rd)[i]? = some '1' := by
  have hchar : (readingChars rd)[i]? = some (charOfDigit (digit rd ⟨i, hi⟩)) := by
    interval_cases i <;> rfl
  rw [hchar]
  change digit rd ⟨i, hi⟩ = true ↔ _
  cases digit rd ⟨i, hi⟩ <;> simp [charOfDigit]

theorem AsmLine.instr_eval_of_some {chars : List Char} {rd : Pattern}
    (h : parseReading chars = some rd) : (AsmLine.eval chars).instr = .eval true rd := by
  simp [AsmLine.instr, h]

theorem AsmLine.instr_eval_of_none {chars : List Char} (h : parseReading chars = none) :
    (AsmLine.eval chars).instr = .eval false 0#6 := by
  simp [AsmLine.instr, h]

/-- Settles O4: `parseReading` inverts the spelling of a reading in six characters. -/
theorem formatCheckDecidesFmtOk : Obligations.FormatCheckDecidesFmtOk := by
  refine ⟨fun chars h => ?wellFormed, fun chars h => ?malformed, fun rd rd' s => rfl,
    fun rd s => ⟨_, rfl, rawField_responseWord _ _ _ _⟩⟩
  case wellFormed =>
    obtain ⟨rd, hrd⟩ := IsReadingString.exists_parseReading h
    refine ⟨rd, AsmLine.instr_eval_of_some hrd, fun i hi => ?_⟩
    rw [(parseReading_eq_some_iff _ _).1 hrd]
    exact getLsbD_eq_true_iff_readingChars rd hi
  case malformed => exact AsmLine.instr_eval_of_none (parseReading_eq_none h)

/-! ## Reading a line (30 R63, R64; log 8) -/

/-- Characters that hold no quote, and no `;` outside a string, stay as they are. -/
theorem stripComment_append_of_plain {quoted : Bool} {cs : List Char} (rest : List Char)
    (hq : quoteChar ∉ cs) (hs : quoted = true ∨ ';' ∉ cs) :
    stripComment quoted (cs ++ rest) = cs ++ stripComment quoted rest := by
  induction cs with
  | nil => rfl
  | cons c cs ih =>
    simp only [List.mem_cons, not_or] at hq hs
    have hc : ¬ (c = ';' && !quoted) = true := by
      rcases hs with rfl | ⟨hc, -⟩
      · simp
      · simp [Ne.symm hc]
    rw [List.cons_append, stripComment, if_neg (Ne.symm hq.1), if_neg hc,
      ih hq.2 (hs.imp_right And.right), List.cons_append]

/-- A line without `;` has no comment. -/
theorem stripComment_of_no_semicolon (quoted : Bool) {cs : List Char} (h : ';' ∉ cs) :
    stripComment quoted cs = cs := by
  induction cs generalizing quoted with
  | nil => rfl
  | cons c cs ih =>
    simp only [List.mem_cons, not_or] at h
    simp [stripComment, ih _ h.2, Ne.symm h.1]

/-- Blanks after the last character go, and a text between two other characters stays. -/
theorem trimBlanks_append_blanks {c e : Char} (mid blanks : List Char) (hc : isBlank c = false)
    (he : isBlank e = false) (hb : ∀ b ∈ blanks, isBlank b = true) :
    trimBlanks (c :: (mid ++ e :: blanks)) = c :: (mid ++ [e]) := by
  have hrev : (c :: (mid ++ e :: blanks)).reverse =
      blanks.reverse ++ e :: (mid.reverse ++ [c]) := by
    simp
  rw [trimBlanks, List.dropWhile_cons_of_neg (by simp [hc]), hrev,
    List.dropWhile_append_of_pos (by simpa using hb), List.dropWhile_cons_of_neg (by simp [he])]
  simp

theorem trimBlanks_cons_blank {b : Char} (cs : List Char) (hb : isBlank b = true) :
    trimBlanks (b :: cs) = trimBlanks cs := by
  simp [trimBlanks, hb]

/-- A quoted string without blanks around it. -/
def quotedText (chars : List Char) : List Char := quoteChar :: (chars ++ [quoteChar])

theorem unquote_quotedText (chars : List Char) : unquote (quotedText chars) = some chars := by
  simp [unquote, quotedText]

theorem isBlank_quoteChar : isBlank quoteChar = false := by decide

/-- The blanks inside the quotes stay. -/
theorem trimBlanks_quotedText (chars : List Char) :
    trimBlanks (quotedText chars) = quotedText chars :=
  trimBlanks_append_blanks chars [] isBlank_quoteChar isBlank_quoteChar (by simp)

/-- `EVAL` and a quoted string. -/
def evalText (chars : List Char) : List Char := 'E' :: (['V', 'A', 'L', ' '] ++ quotedText chars)

theorem trimBlanks_evalText_append (chars blanks : List Char)
    (hb : ∀ b ∈ blanks, isBlank b = true) :
    trimBlanks (evalText chars ++ blanks) = evalText chars := by
  have h := trimBlanks_append_blanks (c := 'E') (['V', 'A', 'L', ' ', quoteChar] ++ chars) blanks
    (by decide) isBlank_quoteChar hb
  simpa [evalText, quotedText] using h

/-- A line whose text, without its comment and outer blanks, is an EVAL. -/
theorem parseLine_of_evalText {line chars : List Char}
    (h : trimBlanks (stripComment false line) = evalText chars) :
    parseLine line = some (.eval chars) := by
  have hk : afterKeyword ['E', 'V', 'A', 'L'] (evalText chars) =
      some (' ' :: quotedText chars) := rfl
  have ht : trimBlanks (' ' :: quotedText chars) = quotedText chars := by
    rw [trimBlanks_cons_blank _ (by decide), trimBlanks_quotedText]
  have hr : evalText chars ≠ ['R', 'E', 'S', 'E', 'T'] := by simp [evalText]
  have hs : evalText chars ≠ ['S', 'T', 'A', 'T', 'E'] := by simp [evalText]
  simp [parseLine, h, hr, hs, hk, ht, unquote_quotedText]

/-- A comment after an EVAL whose string holds no quote is removed, and nothing of the string is. -/
theorem stripComment_evalText_append {chars : List Char} (hq : quoteChar ∉ chars)
    (rest : List Char) :
    stripComment false (evalText chars ++ rest) = evalText chars ++ stripComment false rest := by
  have hsplit : evalText chars ++ rest =
      ['E', 'V', 'A', 'L', ' '] ++ quoteChar :: (chars ++ quoteChar :: rest) := by
    simp [evalText, quotedText]
  rw [hsplit, stripComment_append_of_plain _ (by decide) (.inr (by decide)), stripComment,
    if_pos rfl, Bool.not_false, stripComment_append_of_plain _ hq (.inl rfl), stripComment,
    if_pos rfl, Bool.not_true]
  simp [evalText, quotedText]

theorem stripComment_evalText {chars : List Char} (h : quoteChar ∉ chars ∨ ';' ∉ chars) :
    stripComment false (evalText chars) = evalText chars := by
  rcases h with hq | hs
  · simpa [stripComment] using stripComment_evalText_append hq []
  · have hne : ';' ≠ quoteChar := by decide
    exact stripComment_of_no_semicolon false (by simp [evalText, quotedText, hs, hne])

theorem parseLine_eval {chars : List Char} (h : quoteChar ∉ chars ∨ ';' ∉ chars) :
    parseLine (evalText chars) = some (.eval chars) := by
  refine parseLine_of_evalText ?_
  rw [stripComment_evalText h]
  simpa using trimBlanks_evalText_append chars [] (by simp)

theorem parseLine_eval_comment {chars : List Char} (hq : quoteChar ∉ chars) (comment : List Char) :
    parseLine (evalText chars ++ ' ' :: ';' :: comment) = some (.eval chars) := by
  have hblank : stripComment false (' ' :: ';' :: comment) = [' '] := rfl
  refine parseLine_of_evalText ?_
  rw [stripComment_evalText_append hq, hblank]
  exact trimBlanks_evalText_append chars [' '] (by simp [isBlank])

/-! ### Raw words -/

/-- A hexadecimal digit is no character that is not one. -/
theorem ne_of_hexDigit {c x : Char} {d : Nat} (h : hexDigit c = some d) (hx : hexDigit x = none) :
    x ≠ c := by
  rintro rfl
  simp [hx] at h

theorem isBlank_of_hexDigit {c : Char} {d : Nat} (h : hexDigit c = some d) : isBlank c = false := by
  have hspace := ne_of_hexDigit h (x := ' ') rfl
  have htab := ne_of_hexDigit h (x := Char.ofNat 9) rfl
  simp [isBlank, hspace.symm, htab.symm]

section RawWord
variable {c2 c1 c0 : Char} {d2 d1 d0 : Nat} (h2 : hexDigit c2 = some d2)
  (h1 : hexDigit c1 = some d1) (h0 : hexDigit c0 = some d0)
include h2 h1 h0

theorem parseWord_three_digits (hlt : 256 * d2 + 16 * d1 + d0 < 512) :
    parseWord ['0', 'x', c2, c1, c0] = some (BitVec.ofNat 9 (256 * d2 + 16 * d1 + d0)) := by
  have hval : hexValue 0 [c2, c1, c0] = some (256 * d2 + 16 * d1 + d0) := by
    simp only [hexValue, h2, h1, h0]
    congr 1
    omega
  simp [parseWord, hval, hlt]

theorem parseLine_word (hlt : 256 * d2 + 16 * d1 + d0 < 512) :
    parseLine ['.', 'w', 'o', 'r', 'd', ' ', '0', 'x', c2, c1, c0]
      = some (.word (BitVec.ofNat 9 (256 * d2 + 16 * d1 + d0))) := by
  have hstrip : stripComment false ['.', 'w', 'o', 'r', 'd', ' ', '0', 'x', c2, c1, c0] =
      ['.', 'w', 'o', 'r', 'd', ' ', '0', 'x', c2, c1, c0] := by
    have hn : hexDigit ';' = none := by decide
    exact stripComment_of_no_semicolon false
      (by simp [ne_of_hexDigit h2 hn, ne_of_hexDigit h1 hn, ne_of_hexDigit h0 hn])
  have htext : trimBlanks ['.', 'w', 'o', 'r', 'd', ' ', '0', 'x', c2, c1, c0] =
      ['.', 'w', 'o', 'r', 'd', ' ', '0', 'x', c2, c1, c0] :=
    trimBlanks_append_blanks ['w', 'o', 'r', 'd', ' ', '0', 'x', c2, c1] [] (by decide)
      (isBlank_of_hexDigit h0) (by simp)
  have hoperand : trimBlanks [' ', '0', 'x', c2, c1, c0] = ['0', 'x', c2, c1, c0] :=
    (trimBlanks_cons_blank _ (by decide)).trans
      (trimBlanks_append_blanks ['x', c2, c1] [] (by decide) (isBlank_of_hexDigit h0) (by simp))
  simp [parseLine, hstrip, htext, afterKeyword, hoperand, parseWord_three_digits h2 h1 h0 hlt]

end RawWord

/-- Settles O5: the lines by the lemmas on their forms, the words by the round trips of O1. -/
theorem assemblyLinesAreRead : Obligations.AssemblyLinesAreRead := by
  refine ⟨fun chars h => ?eval, fun chars comment hq => ?evalComment, fun comment => ⟨rfl, rfl⟩,
    by decide, by decide, fun c2 c1 c0 d2 d1 d0 h2 h1 h0 hlt => parseLine_word h2 h1 h0 hlt,
    by decide, rfl, rfl, encode_decode, fun chars rd h => ?reading, fun chars h => ?malformed,
    fun l => decode_encode l.instr⟩
  case eval => simpa [evalText, quotedText] using parseLine_eval h
  case evalComment => simpa [evalText, quotedText] using parseLine_eval_comment hq comment
  case reading => rw [AsmLine.assemble, AsmLine.instr_eval_of_some h]; rfl
  case malformed => rw [AsmLine.assemble, AsmLine.instr_eval_of_none h]; rfl

end Sys2Proof

/-! PROOFS. The statements of spec file 40 (the pattern functions). A pattern is valid iff it is one of
the seven thermometer codes, which stand on a ladder: the code of run `r` is `2^r - 1`, and the distance
between two codes is the difference of their runs. -/

namespace Sys2Proof.Machine

/-! ## The run-length decoder and the level table (40 R71 to R73) -/

/-- The run ends below a 0 bit, or at the top of the pattern. -/
theorem getLsbD_run {p : Pattern} (h : (run p).val < 6) : p.getLsbD (run p).val = false := by
  unfold run at h ⊢
  split_ifs at h ⊢ <;> simp_all

/-- A 0 bit ends the run. -/
theorem run_le_of_getLsbD_false {p : Pattern} {b : Nat} (hb : b < 6) (h : p.getLsbD b = false) :
    (run p).val ≤ b := by
  unfold run
  interval_cases b <;> split_ifs <;> simp_all

/-- Every bit below the run is 1. -/
theorem getLsbD_of_lt_run {p : Pattern} {b : Nat} (h : b < (run p).val) : p.getLsbD b = true := by
  by_contra hz
  have hle := run_le_of_getLsbD_false (p := p) (b := b) (by omega) (by simpa using hz)
  omega

/-- The level table as a formula; its seventh entry stands apart (40 R72). -/
theorem lvl_toNat : ∀ r : Fin 7, (lvl r).toNat = if r.val = 6 then 5 else 5 - r.val := by decide

/-- Settles O7, by the loop of the run and the entries of the level table. -/
theorem levelComesFromTrailingRun : Obligations.LevelComesFromTrailingRun :=
  fun p => ⟨fun _ => getLsbD_of_lt_run, getLsbD_run, lvl_toNat (run p)⟩

/-! ## The validator (40 R74, R75) -/

theorem digits_eq_ofFn (p : Pattern) : digits p = List.ofFn (digit p) := rfl

/-- After a 1, the scan passes iff only 1 digits follow. -/
theorem validFrom_true_iff (ds : List Bool) : validFrom true ds = true ↔ ∀ d ∈ ds, d = true := by
  induction ds with
  | nil => simp [validFrom]
  | cons d ds ih => cases d <;> simp [validFrom, ih]

/-- The whole scan passes iff every digit after a 1 digit is 1. -/
theorem validFrom_false_iff (ds : List Bool) :
    validFrom false ds = true ↔ ds.Pairwise fun d e => d = true → e = true := by
  induction ds with
  | nil => simp [validFrom]
  | cons d ds ih =>
    cases d with
    | false => simp [validFrom, ih]
    | true =>
      rw [validFrom, validFrom_true_iff, List.pairwise_cons]
      constructor
      · exact fun h => ⟨fun e he _ => h e he,
          List.pairwise_of_forall_mem_list fun _ _ e he _ => h e he⟩
      · exact fun ⟨h, _⟩ e he => h e he rfl

theorem valid_iff_digits (p : Pattern) :
    valid p = true ↔ ∀ i j : Fin 6, i < j → digit p i = true → digit p j = true := by
  rw [valid, validFrom_false_iff, digits_eq_ofFn, List.pairwise_ofFn]

/-- The thermometer code of a run, `2^r - 1` (40 R75). -/
def thermometerCode (r : Fin 7) : Pattern := BitVec.ofNat 6 (2 ^ r.val - 1)

theorem valid_thermometerCode : ∀ r : Fin 7, valid (thermometerCode r) = true := by decide

theorem eq_thermometerCode_of_toNat {p : Pattern} {r : Fin 7} (h : p.toNat = 2 ^ r.val - 1) :
    p = thermometerCode r := by
  rw [thermometerCode, ← h, BitVec.ofNat_toNat, BitVec.setWidth_eq]

/-- A valid pattern is the thermometer code of its run. -/
theorem eq_thermometerCode_run {p : Pattern} (hv : valid p = true) : p = thermometerCode (run p) :=
  eq_thermometerCode_of_toNat (valid_code_value p hv)

theorem valid_iff_toNat (p : Pattern) : valid p = true ↔ p.toNat = 2 ^ (run p).val - 1 :=
  ⟨valid_code_value p, fun h => eq_thermometerCode_of_toNat h ▸ valid_thermometerCode _⟩

/-- Settles O8: the scan is read off the digits, and the valid patterns are the thermometer codes. -/
theorem validMeansNoZeroBelowAOne : Obligations.ValidMeansNoZeroBelowAOne :=
  fun p => ⟨valid_iff_digits p, valid_iff_toNat p, fun h => h ▸ valid_thermometerCode 0⟩

/-! ## The Hamming distance (40 R80, R82) -/

theorem digit_xor (a b : Pattern) (i : Fin 6) :
    digit (a ^^^ b) i = (digit a i != digit b i) := by
  simp [digit]

theorem popcount_eq_length_filter (v : Pattern) :
    popcount v = ((List.finRange 6).filter (digit v)).length := by
  rw [popcount, digits_eq_ofFn, List.ofFn_eq_map, List.count, List.countP_map,
    List.countP_eq_length_filter]
  congr 2
  funext i
  simp

theorem hd_eq_length_filter (a b : Pattern) :
    hd a b = ((List.finRange 6).filter fun i => digit a i != digit b i).length := by
  simp only [hd, popcount_eq_length_filter, ← digit_xor]

theorem hd_le_six (a b : Pattern) : hd a b ≤ 6 := by
  rw [hd_eq_length_filter]
  exact (List.length_filter_le _ _).trans_eq List.length_finRange

/-- Settles O9: the digits of `a ^^^ b` that are 1 are the positions where the two differ. -/
theorem distanceCountsDifferingDigits : Obligations.DistanceCountsDifferingDigits :=
  fun a b => ⟨hd_eq_length_filter a b, hd_le_six a b⟩

/-- The distance of two thermometer codes is the difference of their runs (40 R82). -/
theorem hd_thermometerCode : ∀ q r : Fin 7,
    hd (thermometerCode q) (thermometerCode r) = (q.val - r.val) + (r.val - q.val) := by decide

theorem hd_eq_run_difference {a b : Pattern} (ha : valid a = true) (hb : valid b = true) :
    hd a b = ((run a).val - (run b).val) + ((run b).val - (run a).val) := by
  conv_lhs => rw [eq_thermometerCode_run ha, eq_thermometerCode_run hb, hd_thermometerCode]

/-! ## The rise comparator (40 R83, R84) -/

/-- Among valid patterns the numeric order is the order of the runs. -/
theorem toNat_lt_iff_run_lt {a b : Pattern} (ha : valid a = true) (hb : valid b = true) :
    a.toNat < b.toNat ↔ (run a).val < (run b).val := by
  have hpow : 2 ^ (run a).val < 2 ^ (run b).val ↔ (run a).val < (run b).val :=
    Nat.pow_lt_pow_iff_right Nat.one_lt_two
  have hpos := Nat.two_pow_pos (run a).val
  rw [valid_code_value a ha, valid_code_value b hb]
  omega

theorem rise_iff_run_lt {eqIsRise : Bool} {a b : Pattern} (ha : valid a = true)
    (hb : valid b = true) :
    rise eqIsRise a b = true ↔ (run a).val < (run b).val ∨ (eqIsRise = true ∧ b = a) := by
  simp [rise, toNat_lt_iff_run_lt ha hb]

/-! ## The transition policy (40 R81) -/

theorem mayTransition_iff (a b : Pattern) :
    mayTransition a b = true ↔ valid b = true ∧ hd a b ≤ 1 := by
  simp [mayTransition]

/-- A well-formed reading is accepted iff the transition policy allows it. -/
theorem kindField_eq_accepted_iff {rd : Pattern} {s t : State}
    (h : exec (.eval true rd) s = .next t) :
    kindField t.resp = 0b000#3 ↔ mayTransition s.ar rd = true := by
  rw [mayTransition_iff]
  rw [exec] at h
  rcases execEval_cases true rd s with ⟨hf, -⟩ | ⟨-, hv, he⟩ | ⟨-, -, hd1, he⟩ | ⟨-, hv, hd1, he⟩
  · cases hf
  · cases he.symm.trans h
    simp [hv, Kind.code]
  · cases he.symm.trans h
    simp [Kind.code, Nat.not_le.2 hd1]
  · cases he.symm.trans h
    simp [hv, hd1, Kind.code]

/-- Settles O24, by the four ways EVAL ends. -/
theorem acceptanceIsTheTransitionPolicy : Obligations.AcceptanceIsTheTransitionPolicy := by
  intro rd s
  obtain ⟨ar, al, tf, r, h⟩ := exec_shape (.eval true rd) s
  exact ⟨⟨_, h, kindField_eq_accepted_iff h⟩, mayTransition_iff s.ar rd⟩

/-- Settles O28: old and new reading are thermometer codes, at a distance of at most 1. -/
theorem acceptedReadingMovesOneStep : Obligations.AcceptedReadingMovesOneStep := by
  intro rd s t ha h hk
  obtain ⟨hv, hd1⟩ := (mayTransition_iff _ _).1 ((kindField_eq_accepted_iff h).1 hk)
  cases (execEval_accepted hv hd1).symm.trans h
  rw [hd_eq_run_difference ha hv] at hd1
  have hup : (run rd).val ≤ (run s.ar).val + 1 := by omega
  have hdown : (run s.ar).val ≤ (run rd).val + 1 := by omega
  exact ⟨hv, hup, hdown, by simpa using rise_iff_run_lt ha hv⟩

end Sys2Proof.Machine

/-! PROOFS. The statements of spec file 41 (EVAL). The three outcomes that write no `EngineState` are one
response of the state before; an accepted reading leaves `State.accept`, whose answer turns on the rise
and on the flag of the new level. -/

namespace Sys2Proof.Machine

/-! ## Outcomes that write no `EngineState` (41 R101 to R103) -/

/-- A command that ends in `respond` writes the response alone, with the reply's fields. -/
theorem respond_answers (r : Reply) (s : State) : ∃ t, respond r s = .next t ∧
    s.OnlyResponseWritten t ∧ t.Answers r.kind.code r.idx r.notify r.agg r.clr r.raw :=
  ⟨_, rfl, s.putResponse_onlyResponse _, s.putResponse_answers r⟩

/-- Settles O19: the reply names its kind alone. -/
theorem malformedReadingIsRejected : Obligations.MalformedReadingIsRejected :=
  fun _ s => respond_answers { kind := .rejFmt } s

/-- Settles O21, by the outcome of a distant reading and the transition policy. -/
theorem distantReadingIsRejected : Obligations.DistantReadingIsRejected := by
  intro rd s hv hd1
  refine ⟨?policy, ?outcome⟩
  case policy =>
    rw [← Bool.not_eq_true, mayTransition_iff]
    exact fun ⟨_, hle⟩ => Nat.not_le.2 hd1 hle
  case outcome =>
    rw [exec, execEval_distant hv hd1]
    exact respond_answers _ s

/-- Over digits listed from right to left, the locator's loop stops at the rightmost 0 (40 R77). -/
theorem firstZeroDigit_eq_rightmost {p : Pattern} {is : List (Fin 6)}
    (hsorted : is.Pairwise (· > ·)) (hzero : ∃ i ∈ is, digit p i = false) :
    ∃ i ∈ is, firstZeroDigit p is = BitVec.ofNat 3 i.val ∧ digit p i = false ∧
      ∀ j ∈ is, i < j → digit p j = true := by
  induction is with
  | nil => simp at hzero
  | cons k is ih =>
    obtain ⟨hk, hsorted⟩ := List.pairwise_cons.1 hsorted
    cases hdig : digit p k with
    | false =>
      refine ⟨k, List.mem_cons_self, by simp [firstZeroDigit, hdig], hdig, fun j hj hkj => ?_⟩
      rcases List.mem_cons.1 hj with rfl | hj
      · exact absurd hkj (lt_irrefl _)
      · exact absurd hkj (hk j hj).le.not_gt
    | true =>
      obtain ⟨i, hi, hloc, hzi, hlater⟩ := ih hsorted (by simpa [hdig] using hzero)
      refine ⟨i, List.mem_cons_of_mem _ hi, by simpa [firstZeroDigit, hdig] using hloc, hzi,
        fun j hj hij => ?_⟩
      rcases List.mem_cons.1 hj with rfl | hj
      · exact hdig
      · exact hlater j hj hij

/-- An invalid pattern has a 0 digit after a 1 digit. -/
theorem exists_zero_after_one {p : Pattern} (hv : valid p = false) :
    ∃ i j : Fin 6, i < j ∧ digit p i = true ∧ digit p j = false := by
  by_contra hnone
  push Not at hnone
  have hvalid := (valid_iff_digits p).2 fun i j hij hi => by simpa using hnone i j hij hi
  simp [hv] at hvalid

/-- On an invalid pattern the locator names the rightmost 0 digit, and it lies after some 1. -/
theorem loc_of_invalid {p : Pattern} (hv : valid p = false) : (loc p).found = true ∧
    ∃ i : Fin 6, (loc p).sensor = BitVec.ofNat 3 i.val ∧ digit p i = false ∧
      (∀ j : Fin 6, i < j → digit p j = true) ∧ (∃ j : Fin 6, j < i ∧ digit p j = true) := by
  have hloc : loc p = { found := true, sensor := firstZeroDigit p [5, 4, 3, 2, 1, 0] } := by
    simp [loc, hv]
  have hall : ∀ k : Fin 6, k ∈ ([5, 4, 3, 2, 1, 0] : List (Fin 6)) := by decide
  obtain ⟨a, b, hab, ha, hb⟩ := exists_zero_after_one hv
  obtain ⟨i, -, hsensor, hi, hlater⟩ := firstZeroDigit_eq_rightmost (by decide) ⟨b, hall b, hb⟩
  have hbi : b ≤ i := not_lt.1 fun hib =>
    absurd (hlater b (hall b) hib) (by simp [hb])
  rw [hloc]
  exact ⟨rfl, i, hsensor, hi, fun j hij => hlater j (hall j) hij, a, hab.trans_le hbi, ha⟩

/-- Settles O20, by the outcome of an invalid reading and the locator's rule. -/
theorem invalidReadingIsSensorFault : Obligations.InvalidReadingIsSensorFault := by
  intro rd s hv
  obtain ⟨t, h, hframe, hanswers⟩ :=
    respond_answers { kind := .sensorFault, idx := (loc rd).sensor, raw := rd } s
  exact ⟨t, (execEval_invalid hv).trans h, hframe, hanswers, loc_of_invalid hv⟩

/-! ## The accepted reading (41 R104 to R106) -/

/-- The state that an accepted reading leaves. -/
def State.accept (s : State) (rd : Pattern) : State :=
  (s.writeEngine rd (lvl (run rd)) (acceptFlags rd s)).putResponse
    (responseWord (acceptReply rd s) rd (lvl (run rd)) (acceptFlags rd s))

section Accept
variable {s : State} {rd : Pattern}

@[simp] theorem State.accept_ar : (s.accept rd).ar = rd := rfl
@[simp] theorem State.accept_al : (s.accept rd).al = lvl (run rd) := rfl
@[simp] theorem State.accept_tf : (s.accept rd).tf = acceptFlags rd s := rfl
@[simp] theorem State.accept_cfg : (s.accept rd).cfg = s.cfg := rfl

/-- An accepted reading writes the three registers and the response, nothing else. -/
theorem State.accept_frame : s.accept rd = { s with
    ar := rd, al := lvl (run rd), tf := acceptFlags rd s, resp := (s.accept rd).resp,
    respValid := true } := rfl

theorem exec_eval_accepted (hv : valid rd = true) (hd1 : hd s.ar rd ≤ 1) :
    exec (.eval true rd) s = .next (s.accept rd) :=
  execEval_accepted hv hd1

/-- An EVAL that answers ACCEPTED took a valid reading within one step. -/
theorem exec_eval_of_kind_accepted {t : State} (h : exec (.eval true rd) s = .next t)
    (hk : kindField t.resp = 0b000#3) : valid rd = true ∧ hd s.ar rd ≤ 1 ∧ t = s.accept rd := by
  obtain ⟨hv, hd1⟩ := (mayTransition_iff _ _).1 ((kindField_eq_accepted_iff h).1 hk)
  cases (exec_eval_accepted hv hd1).symm.trans h
  exact ⟨hv, hd1, rfl⟩

theorem State.accept_answers : (s.accept rd).Answers 0b000#3 (lvl (run rd))
    (needsNotify (clearOnRise (rise s.cfg.eqIsRise s.ar rd) s.tf) (lvl (run rd)))
    (needsAggregate (rise s.cfg.eqIsRise s.ar rd) s.cfg.risenMask (lvl (run rd)))
    (rise s.cfg.eqIsRise s.ar rd) rd :=
  State.putResponse_answers (s.writeEngine rd (lvl (run rd)) (acceptFlags rd s)) (acceptReply rd s)

/-- The flag of the new level is set (41 R105). -/
theorem inSet_acceptFlags : inSet (acceptFlags rd s) (lvl (run rd)) = true :=
  inSet_markSeen_self _ _

/-- Without a rise, a level whose flag is set keeps the flags. -/
theorem acceptFlags_of_seen (hr : rise s.cfg.eqIsRise s.ar rd = false)
    (hseen : inSet s.tf (lvl (run rd)) = true) : acceptFlags rd s = s.tf := by
  rw [acceptFlags, hr, clearOnRise_false, markSeen_of_inSet _ _ hseen]

/-- Without a rise, a level whose flag is set is accepted silently. -/
theorem State.accept_answers_of_seen (hr : rise s.cfg.eqIsRise s.ar rd = false)
    (hseen : inSet s.tf (lvl (run rd)) = true) :
    (s.accept rd).Answers 0b000#3 (lvl (run rd)) false false false rd := by
  simpa [hr, needsNotify, needsAggregate, hseen] using s.accept_answers (rd := rd)

/-- A rise leaves the new level's flag alone set. -/
theorem acceptFlags_of_rise (hr : rise s.cfg.eqIsRise s.ar rd = true) :
    acceptFlags rd s = 1#6 <<< (lvl (run rd)).toNat := by
  rw [acceptFlags, hr, clearOnRise_true, markSeen, BitVec.zero_or]

/-- A rise notifies, and its aggregate report is the mask's bit. -/
theorem State.accept_answers_of_rise (hr : rise s.cfg.eqIsRise s.ar rd = true) :
    (s.accept rd).Answers 0b000#3 (lvl (run rd)) true
      (inSet s.cfg.risenMask (lvl (run rd))) true rd := by
  simpa [hr, needsNotify, needsAggregate, inSet] using s.accept_answers (rd := rd)

end Accept

/-- Settles O22: the flags and the rise, written with the bits, are those of the accepted state. -/
theorem acceptedReadingUpdatesTheEngine : Obligations.AcceptedReadingUpdatesTheEngine :=
  fun rd s hv hd1 => ⟨s.accept rd, exec_eval_accepted hv hd1, rfl, s.accept_answers⟩

/-- Settles O25, by the effects of a command on the `EngineState`: an EVAL has two of the three. -/
theorem rejectionsWriteNoEngineState : Obligations.RejectionsWriteNoEngineState := by
  intro fmtOk rd s
  obtain ⟨ar, al, tf, reply, h⟩ := exec_shape (.eval fmtOk rd) s
  refine ⟨_, h, ?_⟩
  rcases exec_engine_cases h with ⟨-, r, hkind, ht⟩ | ⟨_, _, hi, -⟩ | ⟨rd', -, -, ht⟩
  · rw [ht]
    have hcode : r.kind.code ≠ Kind.accepted.code := fun hc => hkind (Kind.code_inj _ _ hc)
    exact ⟨fun _ => rfl, fun hacc => absurd (by simpa using hacc : r.kind.code = 0b000#3) hcode⟩
  · cases hi
  · rw [ht]
    exact ⟨fun hrej => absurd (by simp [Kind.code]) hrej, fun _ => inSet_acceptFlags⟩

/-! ## The same reading again (41 R110 item 1) -/

theorem exec_eval_active {s : State} (hv : valid s.ar = true) :
    exec (.eval true s.ar) s = .next (s.accept s.ar) :=
  exec_eval_accepted hv (by simp [hd_self])

/-- Settles O26: the second EVAL is no rise, into a level whose flag the first one set. -/
theorem repeatedReadingIsDebounced : Obligations.RepeatedReadingIsDebounced := by
  intro rd s t heq h hk
  obtain ⟨hv, -, rfl⟩ := exec_eval_of_kind_accepted h hk
  have hr : rise (s.accept rd).cfg.eqIsRise (s.accept rd).ar rd = false :=
    (rise_self _ _).trans heq
  have hseen : inSet (s.accept rd).tf (lvl (run rd)) = true := inSet_acceptFlags
  obtain ⟨-, -, hidx, -⟩ := s.accept_answers (rd := rd)
  refine ⟨(s.accept rd).accept rd, exec_eval_active hv, ?engine, ?answers⟩
  case engine =>
    simp only [State.engine, State.accept_ar, State.accept_al, State.accept_tf,
      acceptFlags_of_seen hr hseen]
  case answers => exact hidx ▸ State.accept_answers_of_seen hr hseen

/-- Settles O27: the equal reading is a rise. -/
theorem repeatedReadingRisesWithEqIsRise : Obligations.RepeatedReadingRisesWithEqIsRise := by
  intro s heq hv
  have hr : rise s.cfg.eqIsRise s.ar s.ar = true := (rise_self _ _).trans heq
  exact ⟨s.accept s.ar, exec_eval_active hv, rfl, acceptFlags_of_rise hr,
    State.accept_answers_of_rise hr⟩

/-! ## A fall (40 R84; 41 R110 items 4 and 7) -/

/-- A candidate below the active reading is no rise under either `EQ_IS_RISE`. -/
theorem rise_eq_false_of_lt (eqIsRise : Bool) {a b : Pattern} (h : b.toNat < a.toNat) :
    rise eqIsRise a b = false := by
  have hne : b ≠ a := fun hba => by simp [hba] at h
  simp [rise, hne, h.le]

/-- Settles O29: a fall is no rise, and the level's flag is set by hypothesis. -/
theorem fallIntoSeenLevelIsSilent : Obligations.FallIntoSeenLevelIsSilent := by
  refine ⟨fun rd s hv hd1 hlt hseen => ?_, by decide, by decide⟩
  have hr := rise_eq_false_of_lt s.cfg.eqIsRise hlt
  refine ⟨s.accept rd, exec_eval_accepted hv hd1, ?frame, State.accept_answers_of_seen hr hseen⟩
  case frame => exact State.accept_frame.trans (by rw [acceptFlags_of_seen hr hseen])

/-! ## `RISEN_MASK` (41 R104) -/

/-- The same block under another `RISEN_MASK`. -/
def State.withRisenMask (s : State) (m : LevelSet) : State :=
  { s with cfg := { s.cfg with risenMask := m } }

/-- A command under another `RISEN_MASK` writes the same registers and answers the same reply but for
`AGG`, which only an accepted rise can set. -/
theorem exec_withRisenMask (i : Instr) (s : State) (m : LevelSet) : ∃ ar al tf r agg,
    exec i s = .next ((s.writeEngine ar al tf).putResponse (responseWord r ar al tf)) ∧
    exec i (s.withRisenMask m) = .next (((s.withRisenMask m).writeEngine ar al tf).putResponse
      (responseWord { r with agg := agg } ar al tf)) ∧
    (r.clr = false → agg = r.agg) := by
  cases i with
  | eval fmtOk rd =>
    rcases execEval_cases fmtOk rd s with
      ⟨rfl, h⟩ | ⟨rfl, hv, h⟩ | ⟨rfl, hv, hd1, h⟩ | ⟨rfl, hv, hd1, h⟩
    · exact ⟨_, _, _, _, _, h, execEval_malformed _ _, fun _ => rfl⟩
    · exact ⟨_, _, _, _, _, h, execEval_invalid hv, fun _ => rfl⟩
    · exact ⟨_, _, _, _, _, h, execEval_distant hv hd1, fun _ => rfl⟩
    · refine ⟨_, _, _, _, _, h, execEval_accepted hv hd1, fun hclr => ?_⟩
      rw [acceptReply_clr] at hclr
      simp [needsAggregate, State.withRisenMask, hclr]
  | reset payload => exact ⟨_, _, _, _, _, rfl, rfl, fun _ => rfl⟩
  | state payload => exact ⟨_, _, _, _, _, rfl, rfl, fun _ => rfl⟩
  | reserved payload => exact ⟨_, _, _, _, _, rfl, rfl, fun _ => rfl⟩

/-- Settles O30: the two responses are words of replies that differ at most in `AGG`. -/
theorem risenMaskDecidesOnlyAggregate : Obligations.RisenMaskDecidesOnlyAggregate := by
  intro i s m
  obtain ⟨ar, al, tf, r, agg, ht, hu, hagg⟩ := exec_withRisenMask i s m
  refine ⟨_, _, ht, hu, rfl, ?_⟩
  simp only [State.putResponse_resp, kindField_responseWord, idxField_responseWord,
    notifyField_responseWord, clrField_responseWord, rawField_responseWord,
    sReadingField_responseWord, sLevelField_responseWord, sFlagsField_responseWord,
    reservedField_responseWord, true_and]
  intro hclr
  rw [hagg hclr]

end Sys2Proof.Machine

/-! PROOFS. The statements of spec file 42 (RESET, STATE and the reserved command). Each of the three
ends in `respond` with a reply that names its kind alone: RESET after `State.loadDefault`, the other two
from the state before. -/

namespace Sys2Proof.Machine

/-! ## The words after a reset to the worked default (42 R121, R123, R124) -/

/-- With all sensors wet as the default, a reply to the state that RESET loads differs from kind to
kind in `KIND` alone. -/
theorem responseWord_loadDefault_worked (k : Kind) {s : State}
    (h : s.cfg.defaultReading = 0b111111#6) :
    responseWord { kind := k } s.loadDefault.ar s.loadDefault.al s.loadDefault.tf =
      0x00BF8000#32 ||| k.code.setWidth 32 := by
  rw [State.loadDefault_ar, State.loadDefault_al, State.loadDefault_tf, h]
  cases k <;> decide

/-! ## RESET (42 R120, R121) -/

/-- The state that RESET leaves. -/
def State.resetDone (s : State) : State :=
  s.loadDefault.putResponse
    (responseWord { kind := .resetDone } s.loadDefault.ar s.loadDefault.al s.loadDefault.tf)

theorem exec_reset (payload : BitVec 7) (s : State) :
    exec (.reset payload) s = .next s.resetDone := rfl

theorem State.resetDone_answers (s : State) :
    s.resetDone.Answers 0b100#3 0#3 false false false 0#6 :=
  s.loadDefault.putResponse_answers { kind := .resetDone }

/-- RESET reads the configuration alone, which it keeps. -/
theorem State.resetDone_resetDone (s : State) : s.resetDone.resetDone = s.resetDone := rfl

/-- Settles O31, by the state that RESET leaves. -/
theorem resetCommandLoadsDefault : Obligations.ResetCommandLoadsDefault := fun payload s =>
  ⟨s.resetDone, exec_reset payload s, rfl, s.resetDone_answers,
    responseWord_loadDefault_worked .resetDone,
    fun payload' => (exec_reset payload' _).trans (congrArg _ s.resetDone_resetDone)⟩

/-! ## STATE (42 R122, R123) -/

/-- No command reads `RESP` or `RESP_VALID`, and every command writes both. -/
theorem State.OnlyResponseWritten.exec_eq {s t : State} (h : s.OnlyResponseWritten t) (i : Instr) :
    exec i t = exec i s := by
  rw [h]
  cases i with
  | eval fmtOk rd => rfl
  | reset payload => rfl
  | state payload => rfl
  | reserved payload => rfl

/-- STATE answers the registers, and writes the response alone. -/
theorem exec_state_snapshot (payload : BitVec 7) (s : State) : ∃ t,
    exec (.state payload) s = .next t ∧ s.OnlyResponseWritten t ∧
    t.Answers 0b101#3 0#3 false false false 0#6 ∧
    sReadingField t.resp = s.ar ∧ sLevelField t.resp = s.al ∧ sFlagsField t.resp = s.tf ∧
    t.resp = responseWord { kind := .snapshot } s.ar s.al s.tf :=
  ⟨_, rfl, s.putResponse_onlyResponse _, s.putResponse_answers { kind := .snapshot },
    sReadingField_responseWord .., sLevelField_responseWord .., sFlagsField_responseWord .., rfl⟩

/-- Settles O32: the snapshot writes the response alone, and after RESET it is of the default. -/
theorem stateAnswersSnapshot : Obligations.StateAnswersSnapshot := by
  refine ⟨fun payload s => ?snapshot, fun payload payload' s => ?afterReset⟩
  case snapshot =>
    obtain ⟨t, h, hframe, hanswers, hreading, hlevel, hflags, -⟩ := exec_state_snapshot payload s
    exact ⟨t, h, hframe, hanswers, hreading, hlevel, hflags, hframe.exec_eq⟩
  case afterReset =>
    obtain ⟨u, h, -, -, hreading, hlevel, hflags, hresp⟩ := exec_state_snapshot payload' s.resetDone
    exact ⟨s.resetDone, u, exec_reset payload s, h, hreading, hlevel, hflags,
      fun hdef => hresp.trans (responseWord_loadDefault_worked .snapshot hdef)⟩

/-! ## The reserved command (42 R124) -/

/-- The words from 0x180 on are those with `CMD = 11` (30 R61). -/
theorem commandField_of_reserved_range {q : Request} (h : 0x180 ≤ q.toNat) :
    commandField q = 0b11#2 := by
  have hlt := q.isLt
  apply BitVec.eq_of_toNat_eq
  simp only [commandField, BitVec.extractLsb'_toNat, BitVec.toNat_ofNat, Nat.shiftRight_eq_div_pow]
  omega

/-- Settles O33: every word of the range decodes to the reserved command, which ignores its payload. -/
theorem reservedCommandIsIllegal : Obligations.ReservedCommandIsIllegal := by
  refine ⟨fun payload s => ?illegal, fun payload payload' s hdef => ?afterReset⟩
  case illegal =>
    obtain ⟨t, h, hframe, hanswers⟩ := respond_answers { kind := .illegal } s
    refine ⟨t, h, hframe, hanswers, fun q hq => ?_⟩
    rw [decode_of_reserved (commandField_of_reserved_range hq)]
    exact h
  case afterReset =>
    exact ⟨s.resetDone, _, exec_reset payload s, rfl, responseWord_loadDefault_worked .illegal hdef⟩

end Sys2Proof.Machine

/-! PROOFS. The statements of spec file 60 (exceptions). The block has none: every command, each outcome
of EVAL among them, ends in `respond`. -/

namespace Sys2Proof.Machine

/-! ## The priority of the outcomes (60 R132) -/

/-- The response of `respond` reports the reply's kind. -/
theorem respond_reports_kind (r : Reply) (s : State) :
    ∃ t, respond r s = .next t ∧ kindField t.resp = r.kind.code :=
  ⟨_, respond_eq_next r s, kindField_responseWord ..⟩

/-- Settles O23: each case of EVAL settles the conditions in order, and its reply names the kind. -/
theorem firstConditionDecidesOutcome : Obligations.FirstConditionDecidesOutcome := by
  intro fmtOk rd s
  rcases execEval_cases fmtOk rd s with
    ⟨rfl, h⟩ | ⟨rfl, hv, h⟩ | ⟨rfl, hv, hd1, h⟩ | ⟨rfl, hv, hd1, h⟩ <;> rw [exec, h]
  · rw [if_pos rfl]
    exact respond_reports_kind _ s
  · rw [if_neg nofun, if_pos hv]
    exact respond_reports_kind _ s
  · rw [if_neg nofun, if_neg (by simp [hv]), if_pos hd1]
    exact respond_reports_kind _ s
  · rw [if_neg nofun, if_neg (by simp [hv]), if_neg (Nat.not_lt.2 hd1)]
    exact respond_reports_kind (acceptReply rd s) _

/-! ## Every command completes (60 R131) -/

/-- Settles O34: a command ends in a response, after writes of the `EngineState` alone. -/
theorem everyCommandCompletes : Obligations.EveryCommandCompletes := by
  intro i s
  obtain ⟨ar, al, tf, r, h⟩ := exec_shape i s
  exact ⟨_, h, State.putResponse_respValid .., exec_frame h⟩

end Sys2Proof.Machine

/-! PROOFS. The statements of spec file 70 (reset and hazards). What a step does at each kind of edge is
one equation, and what a request does is that `exec` of its decoded word is the transaction step of
R162; a run is the fold of the two. -/

namespace Sys2Proof.Machine

/-! ## One step at each kind of edge (70 R150, R155, R156) -/

section StepEquations
variable {s : State} {p : PortSample} {ps : List PortSample}

/-- With nothing driven the edge is idle (log 2). -/
theorem step_of_nil (he : s.edges = []) : step s = .next (idleEdge s) := by
  simp [step, nextEdge, he]

theorem step_of_cons (he : s.edges = p :: ps) : step s = clockEdge p (s.withEdges ps) := by
  simp [step, nextEdge, he]

/-- `rst` wins over everything else (70 R150). -/
theorem step_of_rst (he : s.edges = p :: ps) (hr : p.rst = true) :
    step s = .next (resetEdge p.cfg (s.withEdges ps)) := by
  simp [step_of_cons he, clockEdge, hr]

/-- An idle edge before the first reset takes the configuration as driven (log 6, 15). -/
theorem step_of_unreset_idle (he : s.edges = p :: ps) (hr : p.rst = false)
    (hq : p.reqValid = false) (hw : s.wasReset = false) :
    step s = .next (idleEdge ((s.withEdges ps).takeConfig p.cfg)) := by
  simp [step_of_cons he, clockEdge, unresetEdge, hr, hq, hw]

theorem step_of_running (he : s.edges = p :: ps) (hr : p.rst = false) (hw : s.wasReset = true) :
    step s = runningEdge p (s.withEdges ps) := by
  simp [step_of_cons he, clockEdge, hr, hw]

/-- An idle edge after the first reset, the configuration held (70 R156). -/
theorem step_of_idle (he : s.edges = p :: ps) (hr : p.rst = false) (hq : p.reqValid = false)
    (hw : s.wasReset = true) (hc : p.cfg = s.cfg) :
    step s = .next (idleEdge (s.withEdges ps)) := by
  simp [step_of_running he hr hw, runningEdge, hq, hc]

end StepEquations

/-- A presented request is performed (70 R155). -/
theorem step_of_presents {s : State} {q : Request} {later : List PortSample}
    (h : s.presents q later) : step s = exec (decode q) (s.withEdges later) := by
  obtain ⟨hw, he⟩ := h
  simp [step_of_running he rfl hw, runningEdge, requestSample]

/-- Settles O10: the decoded command is the one of the equation. -/
theorem stepRunsThePresentedCommand : Obligations.StepRunsThePresentedCommand := by
  intro s q later i h hi
  rw [step_of_presents h, hi]

/-- Settles O13: both reset paths load the default of the same configuration. -/
theorem resetEdgeLoadsDefaults : Obligations.ResetEdgeLoadsDefaults := by
  intro s p later he hr
  exact ⟨_, step_of_rst he hr, rfl, rfl, rfl, rfl, rfl, fun payload =>
    ⟨_, exec_reset payload _, rfl⟩⟩

/-- Settles O14, by the equation of the idle edge. -/
theorem idleEdgeKeepsRegisters : Obligations.IdleEdgeKeepsRegisters := by
  intro s p later he hr hq hw hc
  exact ⟨_, step_of_idle he hr hq hw hc, rfl, rfl, rfl, rfl, rfl⟩

/-- Settles O15, by the equations of the two edges at which the block waits. -/
theorem undrivenBlockWaits : Obligations.UndrivenBlockWaits :=
  ⟨fun _ he => step_of_nil he, fun _ _ _ he hr hq hw => step_of_unreset_idle he hr hq hw⟩

/-! ## The response is valid for one cycle (70 R157) -/

section RequestNext
variable {s : State} {p : PortSample} {ps : List PortSample}

theorem State.requestNext_of_nil (he : s.edges = []) : s.requestNext = false := by
  simp [State.requestNext, he]

theorem State.requestNext_of_cons (he : s.edges = p :: ps) :
    s.requestNext = (!p.rst && p.reqValid) := by
  simp [State.requestNext, he]

/-- The edges that perform a command are those that present a request without `rst`. -/
theorem State.commandNext_of_requestNext_false (h : s.requestNext = false) :
    s.commandNext = none := by
  cases he : s.edges with
  | nil => exact State.commandNext_of_nil he
  | cons p ps =>
    rw [State.requestNext_of_cons he] at h
    simp [State.commandNext, he, h]

end RequestNext

/-- A command answers afresh, and its response does not depend on the samples still to come. -/
theorem exec_withEdges_response {i : Instr} {s t : State} {ps : List PortSample}
    (h : exec i (s.withEdges ps) = .next t) :
    t.respValid = true ∧ ∃ u, exec i s = .next u ∧ t.resp = u.resp := by
  obtain ⟨u, t', hu, ht', hresp, -⟩ := exec_ignores_other_fields i s s.resp s.respValid s.wasReset ps
  obtain ⟨ar, al, tf, r, hx⟩ := exec_shape i (s.withEdges ps)
  cases hx.symm.trans h
  cases hx.symm.trans ht'
  exact ⟨rfl, u, hu, hresp.symm⟩

/-- What R157 asks of an edge at which no request is performed. -/
theorem response_of_no_request {s t : State} (hn : s.requestNext = false)
    (hv : t.respValid = false) (hresp : s.resetNext = false → t.resp = s.resp) :
    t.respValid = s.requestNext ∧
    (∀ i, s.commandNext = some i → ∃ u, exec i s = .next u ∧ t.resp = u.resp) ∧
    (s.requestNext = false → s.resetNext = false → t.resp = s.resp) := by
  refine ⟨hv.trans hn.symm, fun i hi => ?_, fun _ => hresp⟩
  rw [State.commandNext_of_requestNext_false hn] at hi
  cases hi

/-- Settles O16, by the five ways a step answers: only the last performs a command. -/
theorem responseValidForOneCycle : Obligations.ResponseValidForOneCycle := by
  intro s t h
  rcases step_next_cases h with ⟨he, rfl⟩ | ⟨p, ps, he, ⟨hr, rfl⟩ | ⟨hr, hq, hw, rfl⟩ |
    ⟨hr, hq, hw, hc, rfl⟩ | ⟨hr, hq, hw, hc, hx⟩⟩
  · exact response_of_no_request (State.requestNext_of_nil he) rfl fun _ => rfl
  · have hreset : s.resetNext = true := (State.resetNext_of_cons he).trans hr
    exact response_of_no_request (by simp [State.requestNext_of_cons he, hr]) rfl (by simp [hreset])
  · exact response_of_no_request (by simp [State.requestNext_of_cons he, hq]) rfl fun _ => rfl
  · exact response_of_no_request (by simp [State.requestNext_of_cons he, hq]) rfl fun _ => rfl
  · have hn : s.requestNext = true := by simp [State.requestNext_of_cons he, hr, hq]
    obtain ⟨hv, hresp⟩ := exec_withEdges_response hx
    rw [State.commandNext_of_request he hr hq]
    exact ⟨hv.trans hn.symm, fun i hi => Option.some.inj hi ▸ hresp, by simp [hn]⟩

/-! ## A host that keeps its duties (70 R159) -/

section Conforming
variable {s : State} {p : PortSample} {ps : List PortSample}

theorem State.conforms_of_cons (he : s.edges = p :: ps) :
    s.conforms = hostConforms s.wasReset s.cfg (p :: ps) := by
  rw [State.conforms, he]

theorem hostConforms_of_rst (w : Bool) (c : Configuration) (hr : p.rst = true) :
    hostConforms w c (p :: ps) = hostConforms true p.cfg ps := by
  simp [hostConforms, hr]

theorem hostConforms_true_iff (c : Configuration) (hr : p.rst = false) :
    hostConforms true c (p :: ps) = true ↔ p.cfg = c ∧ hostConforms true c ps = true := by
  simp [hostConforms, hr]

theorem hostConforms_false_iff (c : Configuration) (hr : p.rst = false) :
    hostConforms false c (p :: ps) = true ↔
      p.reqValid = false ∧ hostConforms false p.cfg ps = true := by
  simp [hostConforms, hr]

end Conforming

/-- The two refusals are the two breaches of a host's duties. -/
theorem step_ne_refused_of_conforms {s : State} (h : s.conforms = true) (r : Refusal) :
    step s ≠ .refused r := by
  intro hs
  obtain ⟨p, later, he, hr, ⟨hq, hw, -⟩ | ⟨hw, hc, -⟩⟩ := (step_eq_refused_iff s r).1 hs <;>
    rw [State.conforms_of_cons he, hw] at h
  · simp [hostConforms_false_iff _ hr, hq] at h
  · exact hc ((hostConforms_true_iff _ hr).1 h).1

/-- A step that answers leaves a conforming host conforming over the samples that remain. -/
theorem step_keeps_conforms {s t : State} (h : s.conforms = true) (hs : step s = .next t) :
    t.conforms = true := by
  rcases step_next_cases hs with ⟨he, rfl⟩ | ⟨p, ps, he, ⟨hr, rfl⟩ | ⟨hr, hq, hw, rfl⟩ |
    ⟨hr, hq, hw, hc, rfl⟩ | ⟨hr, hq, hw, hc, hx⟩⟩
  · exact h
  · rw [State.conforms_of_cons he, hostConforms_of_rst _ _ hr] at h
    exact h
  · rw [State.conforms_of_cons he, hw, hostConforms_false_iff _ hr] at h
    simpa [State.conforms, hw] using h.2
  · rw [State.conforms_of_cons he, hw, hostConforms_true_iff _ hr] at h
    simpa [State.conforms, hw] using h.2
  · rw [State.conforms_of_cons he, hw, hostConforms_true_iff _ hr] at h
    obtain ⟨hcfg, hwas, hedges⟩ := exec_frame hx
    simpa [State.conforms, hcfg, hwas, hedges, hw] using h.2

/-- Settles O18: nothing but a breach of the duties stops a step, and the duties carry over. -/
theorem conformingHostIsNeverStopped : Obligations.ConformingHostIsNeverStopped := by
  intro s h
  cases hs : step s with
  | next t => exact ⟨t, rfl, step_keeps_conforms h hs⟩
  | fault f => cases f
  | refused r => exact absurd hs (step_ne_refused_of_conforms h r)

/-! ## The transaction step (70 R162) -/

/-- The state after a transaction: its registers and its response, written by the operations of the
machine. -/
def State.perform (s : State) (x : EngineState × ResponseWord) : State :=
  (s.writeEngine x.1.ar x.1.al x.1.tf).putResponse x.2

/-- 30 R55: a response is the transaction's sum of shifted fields. -/
theorem respond_eq_perform (r : Reply) (s : State) :
    respond r s = .next (s.perform (s.engine,
      shiftedWord r.kind.code r.idx r.notify r.agg r.clr r.raw s.engine)) :=
  congrArg (Host.Outcome.next ∘ s.putResponse) (responseIsSumOfShiftedFields r s.ar s.al s.tf)

/-! ### The rows of the opcode table (30 R60) -/

theorem and_formatMask_eq_zero_iff (q : Request) :
    q &&& 0x040#9 = 0#9 ↔ formatField q = false := by
  rw [show 0x040#9 = BitVec.twoPow 9 6 from rfl, BitVec.and_twoPow, formatField]
  cases q.getLsbD 6 <;> decide

theorem setWidth_eq_readingField (q : Request) : q.setWidth 6 = readingField q :=
  BitVec.setWidth_eq_extractLsb' (by decide)

section TransactRows
variable (c : Configuration) (e : EngineState) {q : Request}

theorem transact_of_eval (h : commandField q = 0b00#2) : transact c e q =
    if formatField q = false then (e, shiftedWord 3#3 0#3 false false false 0#6 e)
    else transactReading c e (readingField q) := by
  simp [transact, and_cmdMask, h, and_formatMask_eq_zero_iff, setWidth_eq_readingField]

theorem transact_of_reset (h : commandField q = 0b01#2) : transact c e q =
    let e' : EngineState :=
      { ar := c.defaultReading, al := fiveMinusBit (lowestZero c.defaultReading), tf := 0#6 }
    (e', shiftedWord 4#3 0#3 false false false 0#6 e') := by
  simp [transact, and_cmdMask, h]

theorem transact_of_state (h : commandField q = 0b10#2) :
    transact c e q = (e, shiftedWord 5#3 0#3 false false false 0#6 e) := by
  simp [transact, and_cmdMask, h]

theorem transact_of_reserved (h : commandField q = 0b11#2) :
    transact c e q = (e, shiftedWord 6#3 0#3 false false false 0#6 e) := by
  simp [transact, and_cmdMask, h]

end TransactRows

/-! ### The EVAL transaction (41 R102 to R106) -/

/-- 40 R83, R84: the comparator as one comparison of words. -/
theorem ite_le_lt_iff_rise (eqIsRise : Bool) (a b : Pattern) :
    (if eqIsRise = true then a ≤ b else a < b) ↔ rise eqIsRise a b = true := by
  cases eqIsRise with
  | false => simp [rise, BitVec.lt_def]
  | true =>
    rw [if_pos rfl, BitVec.le_def, Nat.le_iff_lt_or_eq, BitVec.toNat_inj, eq_comm (a := a)]
    simp [rise]

section TransactReading
variable {s : State} {rd : Pattern}

theorem transactReading_invalid (c : Configuration) (e : EngineState) (hv : valid rd = false) :
    transactReading c e rd = (e, shiftedWord 1#3 (loc rd).sensor false false false rd e) := by
  simp [transactReading, ← valid_eq_isThermometer, hv, loc_sensor_eq_fiveMinusBit rd hv]

theorem transactReading_distant (c : Configuration) (e : EngineState) (hv : valid rd = true)
    (hd1 : hd e.ar rd > 1) :
    transactReading c e rd = (e, shiftedWord 2#3 0#3 false false false rd e) := by
  have hw : withinOneStep e.ar rd = false := by
    simpa [hd_le_one_iff_withinOneStep] using Nat.not_le.2 hd1
  simp [transactReading, ← valid_eq_isThermometer, hv, hw]

/-- The transaction's accept branch writes what the accept path writes: the level is the table's, the
word comparison is the comparator, and a flag is tested by its single bit. -/
theorem transactReading_accepted (hv : valid rd = true) (hd1 : hd s.ar rd ≤ 1) :
    transactReading s.cfg s.engine rd = ((s.accept rd).engine,
      shiftedWord 0#3 (lvl (run rd)) (acceptReply rd s).notify (acceptReply rd s).agg
        (acceptReply rd s).clr rd (s.accept rd).engine) := by
  have hw : withinOneStep s.ar rd = true := (hd_le_one_iff_withinOneStep _ _).1 hd1
  simp [transactReading, ← valid_eq_isThermometer, hv, hw, State.engine, acceptFlags, markSeen,
    clearOnRise, needsNotify, needsAggregate, bne, inSet_eq_and_bit, ← lvl_run_eq_fiveMinusBit,
    ite_le_lt_iff_rise]

/-- 41 R102 to R106 against 40 R75, R78, R80: EVAL of a well-formed reading is its transaction. -/
theorem execEval_eq_transactReading (rd : Pattern) (s : State) :
    execEval true rd s = .next (s.perform (transactReading s.cfg s.engine rd)) := by
  rcases execEval_cases true rd s with ⟨hf, -⟩ | ⟨-, hv, h⟩ | ⟨-, hv, hd1, h⟩ | ⟨-, hv, hd1, h⟩
  · cases hf
  · rw [h, transactReading_invalid _ _ hv]
    exact respond_eq_perform { kind := .sensorFault, idx := (loc rd).sensor, raw := rd } s
  · rw [h, transactReading_distant s.cfg s.engine hv hd1]
    exact respond_eq_perform { kind := .rejMsj, raw := rd } s
  · rw [h, transactReading_accepted hv hd1]
    exact respond_eq_perform (acceptReply rd s) _

end TransactReading

/-- Every command of every state is the transaction of its request word (70 R162). -/
theorem exec_decode_eq_transact (q : Request) (s : State) :
    exec (decode q) s = .next (s.perform (transact s.cfg s.engine q)) := by
  rcases decode_cases q with ⟨hc, hd⟩ | ⟨hc, hd⟩ | ⟨hc, hd⟩ | ⟨hc, hd⟩ <;> rw [hd]
  · rw [transact_of_eval _ _ hc, exec]
    cases hf : formatField q with
    | false => exact respond_eq_perform { kind := .rejFmt } s
    | true => exact execEval_eq_transactReading (readingField q) s
  · rw [transact_of_reset _ _ hc, ← lvl_run_eq_fiveMinusBit]
    exact respond_eq_perform { kind := .resetDone } s.loadDefault
  · rw [transact_of_state _ _ hc]
    exact respond_eq_perform { kind := .snapshot } s
  · rw [transact_of_reserved _ _ hc]
    exact respond_eq_perform { kind := .illegal } s

theorem step_eq_transact {s : State} {q : Request} {later : List PortSample}
    (h : s.presents q later) :
    step s = .next ((s.withEdges later).perform (transact s.cfg s.engine q)) :=
  (step_of_presents h).trans (exec_decode_eq_transact q _)

/-- Settles O11: the step performs the decoded command, which is the transaction of its word. -/
theorem stepPerformsTheTransaction : Obligations.StepPerformsTheTransaction :=
  fun _ _ _ h => step_eq_transact h

/-! ## Runs (70 R158, R161) -/

/-- A run goes on from the state that its first step answers. -/
theorem observeRun_succ_of_step {s t u : State} {k : Nat} {rs : List ResponseWord}
    (hs : step s = .next t) (hrun : observeRun k t = some (rs, u)) :
    observeRun (k + 1) s = some (t.resp :: rs, u) := by
  simp [observeRun, hs, hrun]

/-- Settles O12, by induction on the requests: the first step is the first transaction, and the rest
of the requests are presented to the state it leaves. -/
theorem runPerformsEveryRequestInOrder : Obligations.RunPerformsEveryRequestInOrder := by
  intro qs
  induction qs with
  | nil => exact fun s hw he => ⟨s, rfl, rfl, he, rfl, hw⟩
  | cons q qs ih =>
    intro s hw he
    have hstep := step_eq_transact (s := s) ⟨hw, he⟩
    obtain ⟨u, hrun, hengine, hedges, hcfg, hwas⟩ :=
      ih ((s.withEdges (qs.map (requestSample s.cfg))).perform (transact s.cfg s.engine q)) hw rfl
    exact ⟨u, observeRun_succ_of_step hstep hrun, hengine, hedges, hcfg, hwas⟩

end Sys2Proof.Machine
